-- ==== Sys2Proof/Word.lean ====
section
/-! DEFINITION. The word types of the block: the byte of every field it interprets (R9, R72) and the
16-bit command word (R106). -/

namespace Sys2Proof

/-- A byte, an unsigned 8-bit value (R9). -/
abbrev Byte := BitVec 8

/-- One command word of the command port, 16 bits (R106). -/
abbrev CommandWord := BitVec 16

end Sys2Proof
end

