-- ==== Sys2Proof/Syntax.lean ====
section
/-! DEFINITION. The ten commands of the opcode map (R108, spec/opcode_table.json), one constructor for
each row. -/

namespace Sys2Proof

/-- A legal command with its operand (R107). Illegal words are no command (R109). -/
inductive Instr where
  /-- `feed b` (R140): the next byte delivered by the transport. -/
  | feed (b : Byte)
  /-- `next` (R220), NEXT_PAYLOAD. -/
  | next
  /-- `rdtx i` (R230), READ_TX at the unsigned byte offset `i`. -/
  | rdtx (i : Byte)
  /-- `take.boot` (R260). -/
  | takeBoot
  /-- `take.bind` (R261). -/
  | takeBind
  /-- `take.mm` (R262). -/
  | takeMm
  /-- `take.ping` (R263). -/
  | takePing
  /-- `cnt.upd` (R233), UPDATED_COUNT. -/
  | cntUpd
  /-- `cnt.rx` (R234), RECEIVED_COUNT. -/
  | cntRx
  /-- `linkrst` (R265), LINK_RESET. -/
  | linkrst
deriving DecidableEq, Repr

end Sys2Proof
end

