-- ==== Sys2Proof/Decode.lean ====
section
/-! DEFINITION. Decoding a command word (R106, R107, R116) and the encoder beside it (R108). -/

namespace Sys2Proof

/-- Why a word is no command; each reason is a line of R116 that answers `E_ILLEGAL`. -/
inductive IllegalWord where
  /-- `cmd[11:8]` is not 0. -/
  | nonzeroZ
  /-- `cmd[7:0]` is not 0 for an operation without operand. -/
  | nonzeroImm8
  /-- `cmd[15:12]` is 0x0 or 0xB to 0xF. -/
  | unassignedOp
deriving DecidableEq, Repr

/-- `cmd[15:12]` (R106). -/
def opField (w : CommandWord) : BitVec 4 := w.extractLsb' 12 4

/-- `cmd[11:8]` (R106). -/
def zField (w : CommandWord) : BitVec 4 := w.extractLsb' 8 4

/-- `cmd[7:0]` (R106). -/
def imm8Field (w : CommandWord) : Byte := w.extractLsb' 0 8

/-- The operation without operand that `op` names, if any (R108). -/
def plainOp (op : BitVec 4) : Option Instr :=
  if op = 0x2#4 then some .next
  else if op = 0x4#4 then some .takeBoot
  else if op = 0x5#4 then some .takeBind
  else if op = 0x6#4 then some .takeMm
  else if op = 0x7#4 then some .takePing
  else if op = 0x8#4 then some .cntUpd
  else if op = 0x9#4 then some .cntRx
  else if op = 0xA#4 then some .linkrst
  else none

/-- The decoding procedure of R116: total, every word a command or illegal by name. -/
def decode (w : CommandWord) : Except IllegalWord Instr :=
  if zField w ≠ 0#4 then .error .nonzeroZ
  else if opField w = 0x1#4 then .ok (.feed (imm8Field w))
  else if opField w = 0x3#4 then .ok (.rdtx (imm8Field w))
  else
    match plainOp (opField w) with
    | none => .error .unassignedOp
    | some i => if imm8Field w ≠ 0#8 then .error .nonzeroImm8 else .ok i

/-- The word of R106 with the given `op` and `imm8`, and `z = 0`. -/
def commandWord (op : BitVec 4) (imm8 : Byte) : CommandWord := (op ++ 0#4) ++ imm8

/-- The word of a command (R108). -/
def encode : Instr → CommandWord
  | .feed b => commandWord 0x1#4 b
  | .next => commandWord 0x2#4 0#8
  | .rdtx i => commandWord 0x3#4 i
  | .takeBoot => commandWord 0x4#4 0#8
  | .takeBind => commandWord 0x5#4 0#8
  | .takeMm => commandWord 0x6#4 0#8
  | .takePing => commandWord 0x7#4 0#8
  | .cntUpd => commandWord 0x8#4 0#8
  | .cntRx => commandWord 0x9#4 0#8
  | .linkrst => commandWord 0xA#4 0#8

/-- The command word an opcode-table row with `nbits` bits `w` stands for; the bits above `nbits` are 0. -/
def tableWord (nbits w : Nat) : CommandWord := BitVec.ofNat 16 (w % 2 ^ nbits)

/-- The instruction `decode` reads from the `nbits` bits `w`; `none` where it refuses them. -/
def decodeTableWord (nbits w : Nat) : Option Instr :=
  match decode (tableWord nbits w) with
  | .ok i => some i
  | .error _ => none

end Sys2Proof
end

