-- ==== Sys2Proof/Machine/Mem.lean ====
section
/-! DEFINITION. A byte store (R70): the arena and the working buffer are each one. It is a list of
(address, byte) pairs with strictly rising addresses and no entry 0x00; an unlisted address reads 0x00,
which is what full reset leaves in both stores (R33, R39; log 12). -/

namespace Sys2Proof.Machine

/-- The listed bytes of a store. -/
abbrev Memory := List Host.Cell

/-- What an unlisted address reads as: the reset contents of both stores (R33, R39). -/
def unlistedByte : Byte := 0x00#8

/-- One entry in front of a store, unless it says what an unlisted address reads as. -/
def Memory.cons (a : Nat) (b : Byte) (m : Memory) : Memory := if b = unlistedByte then m else (a, b) :: m

/-- The byte at address `a`. -/
def Memory.read (m : Memory) (a : Nat) : Byte :=
  match m with
  | [] => unlistedByte
  | (a', b) :: rest => if a = a' then b else Memory.read rest a

/-- The store after byte `b` is written at address `a`. -/
def Memory.write (m : Memory) (a : Nat) (b : Byte) : Memory :=
  match m with
  | [] => Memory.cons a b []
  | (a', b') :: rest =>
    if a < a' then Memory.cons a b ((a', b') :: rest)
    else if a = a' then Memory.cons a b rest
    else (a', b') :: Memory.write rest a b

/-- `MemWrite(a, n, s)` with `n` the length of `s` (R10): the bytes of `s` in order from address `a` on. -/
def Memory.writeBytes (m : Memory) (a : Nat) : List Byte → Memory
  | [] => m
  | b :: bs => Memory.writeBytes (Memory.write m a b) (a + 1) bs

/-- `MemRead(a, n)`: the byte string from address `a` on (R10). -/
def Memory.readBytes (m : Memory) (a n : Nat) : List Byte := (List.range n).map fun i => Memory.read m (a + i)

/-- The canonical form above the address `lo`: addresses from `lo` on, strictly rising, no entry that an
unlisted address reads as. -/
def Memory.wfFrom (lo : Nat) : Memory → Bool
  | [] => true
  | (a, b) :: rest => decide (lo ≤ a) && b != unlistedByte && Memory.wfFrom (a + 1) rest

/-- The canonical form, in which equal stores are equal lists. -/
def Memory.wf (m : Memory) : Bool := Memory.wfFrom 0 m

/-- Every listed address is below `size`. -/
def Memory.below (m : Memory) (size : Nat) : Bool := m.all fun c => decide (c.1 < size)

end Sys2Proof.Machine
end

