-- ==== Sys2Proof/Config.lean ====
section
/-! DEFINITION. The configuration record of R6, which is fixed for the life of the block (R48). The
reference values are in Machine/Params.lean, the checks of R7 in WellFormed.lean. -/

namespace Sys2Proof

/-- Which function the parameter `P_CRC8` of R6 is. The spec leaves the function open (R11, D22), and a
record of plain data cannot hold a function, so the record names it. DESIGN CHOICE, log 6, safe. -/
inductive CrcChoice where
  /-- The reference function, CRC-8/DVB-S2 (R6). -/
  | dvbS2
  /-- Any other total function from byte strings to bytes; nothing is known of it (R11). -/
  | external (index : Nat)
deriving DecidableEq, Repr

/-- The CRC primitive where it is not the reference one: a total function of the byte string alone (R11),
with no body, so that no proof can see its values. DESIGN CHOICE, log 6, safe. -/
opaque Config.externalCrc8 : Nat → List Byte → Byte

/-- One entry of `P_STD`: the frame type a standard slot accepts and its capacity in bytes (R6). -/
structure StdSlot where
  filter : Byte
  cap : Nat
deriving DecidableEq, Repr

/-- The configuration record `Cfg` of R6, one field for each of its parameters. -/
structure Cfg where
  /-- `P_N`, the number of slots, the two reserved ones included. -/
  n : Nat
  /-- `P_STD`, the standard slots in order. -/
  std : List StdSlot
  /-- `P_RES_CAP`, the capacity of each reserved slot. -/
  resCap : Nat
  /-- `P_ARENA`, the arena size in bytes. -/
  arenaSize : Nat
  /-- `P_MAX_LEN`; a declared length `L >= P_MAX_LEN` is rejected. -/
  maxLen : Nat
  /-- `P_SYNC_RX`, the receiver-address byte. -/
  syncRx : Byte
  /-- `P_SYNC_GEN`, the generic sync byte. -/
  syncGen : Byte
  /-- `P_ADDR_FC`, the flight-controller address. -/
  addrFc : Byte
  /-- `P_T_COMMAND`. -/
  tCommand : Byte
  /-- `P_T_DEVICE_PING`. -/
  tDevicePing : Byte
  /-- `P_T_EXT_FIRST`, the first extended-header type. -/
  tExtFirst : Byte
  /-- `P_T_MSP_REQ`. -/
  tMspReq : Byte
  /-- `P_T_MSP_RESP`. -/
  tMspResp : Byte
  /-- `P_T_VENDOR_RESP`. -/
  tVendorResp : Byte
  /-- `P_ST_STATUS_TEXT`. -/
  stStatusText : Byte
  /-- `P_OFF_SUB0`. -/
  offSub0 : Nat
  /-- `P_OFF_SUB1`. -/
  offSub1 : Nat
  /-- `P_OFF_MMID`. -/
  offMmid : Nat
  /-- `P_OFF_ORIGIN`. -/
  offOrigin : Nat
  /-- `P_OFF_PING_TARGET`. -/
  offPingTarget : Nat
  /-- `P_OFF_VSUB`. -/
  offVsub : Nat
  /-- `P_CRC8`. -/
  crc : CrcChoice
  /-- `P_CNT_W`, the width in bits of the received-frame counter. -/
  cntW : Nat
deriving DecidableEq, Repr

end Sys2Proof
end

