-- ==== Sys2Proof/Machine/Params.lean ====
section
/-! DEFINITION. What the configuration determines: the derived sizes of R8, the arena partition of R71,
the CRC primitive of R11 and the reference configuration of R6. -/

namespace Sys2Proof

/-- `MAX_FRAME`, the size in bytes of the largest frame and of the working buffer (R8). -/
def Cfg.maxFrame (c : Cfg) : Nat := c.maxLen + 1

/-- `RES2`, the second-to-last slot (R8). -/
def Cfg.res2 (c : Cfg) : Nat := c.n - 2

/-- `RES1`, the last slot (R8). -/
def Cfg.res1 (c : Cfg) : Nat := c.n - 1

/-- The capacities of the slots in declaration order: the standard slots, then the two reserved ones
(R35, R71). -/
def Cfg.caps (c : Cfg) : List Nat := c.std.map StdSlot.cap ++ [c.resCap, c.resCap]

/-- `cap[k]`, and 0 where there is no slot `k` (R35). -/
def Cfg.cap (c : Cfg) (k : Nat) : Nat := c.caps.getD k 0

/-- `base[k]`, the cumulative offset of slot `k` (R71). -/
def Cfg.base (c : Cfg) (k : Nat) : Nat := (c.caps.take k).sum

/-- The two recognised sync values (R141). -/
def Cfg.isSync (c : Cfg) (b : Byte) : Bool := b == c.syncRx || b == c.syncGen

/-- One bit of the reference CRC: polynomial 0xD5, most significant bit first (R6). -/
def crcDvbS2Shift (v : Byte) : Byte := if v.msb then (v <<< 1) ^^^ 0xD5#8 else v <<< 1

/-- The reference CRC over one more byte, eight shifts (R6). -/
def crcDvbS2Byte (v b : Byte) : Byte :=
  crcDvbS2Shift (crcDvbS2Shift (crcDvbS2Shift (crcDvbS2Shift
    (crcDvbS2Shift (crcDvbS2Shift (crcDvbS2Shift (crcDvbS2Shift (v ^^^ b))))))))

/-- The reference CRC from the running value `v`: no reflection and no final exclusive or (R6). -/
def crcDvbS2From (v : Byte) : List Byte → Byte
  | [] => v
  | b :: bs => crcDvbS2From (crcDvbS2Byte v b) bs

/-- `crc8(s, n)`: the parameter `P_CRC8` applied to the first `n` bytes of `s` (R10, R11). -/
def Cfg.crc8 (c : Cfg) (s : List Byte) (n : Nat) : Byte :=
  match c.crc with
  | .dvbS2 => crcDvbS2From 0#8 (s.take n)
  | .external index => Config.externalCrc8 index (s.take n)

/-- The reference configuration, the last but one column of R6's table. PRESUMED where that table says
general knowledge, log 14, unsafe only for a statement that names this record. -/
def Cfg.reference : Cfg where
  n := 5
  std := [⟨0x02#8, 19⟩, ⟨0x08#8, 12⟩, ⟨0x21#8, 16⟩]
  resCap := 65
  arenaSize := 177
  maxLen := 64
  syncRx := 0xEC#8
  syncGen := 0xC8#8
  addrFc := 0xC8#8
  tCommand := 0x21#8
  tDevicePing := 0x28#8
  tExtFirst := 0x28#8
  tMspReq := 0x7A#8
  tMspResp := 0x7B#8
  tVendorResp := 0x80#8
  stStatusText := 0xF1#8
  offSub0 := 3
  offSub1 := 4
  offMmid := 5
  offOrigin := 3
  offPingTarget := 3
  offVsub := 3
  crc := .dvbS2
  cntW := 32

end Sys2Proof
end

