-- ==== Sys2Proof/Machine/State.lean ====
section
/-! DEFINITION. The architectural state of R30 as plain data, the model's own fields beside it, the
reasons a step can stop, and the state after full reset (R340). -/

namespace Sys2Proof.Machine

/-- The framer's state register (R31). Its three values; the encoding 3 is never written and has no
constructor (I28). DESIGN CHOICE, log 9, safe. -/
inductive Fsm where
  /-- IDLE = 0. -/
  | idle
  /-- RX_LEN = 1, the source's `RECEIVING_LENGTH`. -/
  | rxLen
  /-- RX_DATA = 2, the source's `RECEIVING_DATA`. -/
  | rxData
deriving DecidableEq, Repr

/-- The response bundle, the wires of R111. -/
structure Response where
  /-- `rsp_status`. -/
  status : BitVec 4
  /-- `rsp_ok`. -/
  ok : Bool
  /-- `rsp_done`, the frame-done signal (R150). -/
  done : Bool
  /-- `rsp_route`. -/
  route : BitVec 8
  /-- `rsp_data`. -/
  data : BitVec 32
deriving DecidableEq, Repr

/-- What the environment presents to the block: a word on the command port (R106) or the reset input
(R340). DESIGN CHOICE, log 1 and log 13. -/
inductive Input where
  | command (w : CommandWord)
  | fullReset
deriving DecidableEq, Repr

/-- The state record of R30, and four fields that are the model's own: `cfg`, `inputs`, `rsp`, `mspLog`
(log 1, 3, 4, 5). -/
structure State where
  /-- The configuration (R6), constant for the life of the block (R48). -/
  cfg : Cfg
  /-- `fsm` (R31). -/
  fsm : Fsm
  /-- `cnt`, bytes received after the length byte, 8 bits (R32). -/
  cnt : BitVec 8
  /-- `wbuf`, the working buffer of `MAX_FRAME` bytes (R33). -/
  wbuf : Memory
  /-- `rx_count`, a number of `P_CNT_W` bits (R34; log 10). -/
  rxCount : Nat
  /-- `updated[k]` for `k < P_N` (R36). -/
  updated : List Bool
  /-- `locked[k]` for `k < P_N` (R37). -/
  locked : List Bool
  /-- `arena` of `P_ARENA` bytes (R39). -/
  arena : Memory
  /-- `cursor`, 6 bits (R40). -/
  cursor : BitVec 6
  /-- `tx_valid` (R41). -/
  txValid : Bool
  /-- `tx_slot`, 6 bits (R41). -/
  txSlot : BitVec 6
  /-- `tx_len`, 9 bits (R41). -/
  txLen : BitVec 9
  /-- `latch_boot` (R42). -/
  latchBoot : Bool
  /-- `latch_bind` (R42). -/
  latchBind : Bool
  /-- `latch_mm` (R42). -/
  latchMm : Bool
  /-- `latch_ping` (R42). -/
  latchPing : Bool
  /-- `mm_id`, 8 bits (R43). -/
  mmId : Byte
  /-- What the environment will present, the next one first (R76; log 1). -/
  inputs : List Input
  /-- The output wires in the step just done; `none` when it was no command (R46, R111; log 3). -/
  rsp : Option Response
  /-- The MSP feed output log, oldest event first (R82; log 4). -/
  mspLog : List (List Byte)
deriving DecidableEq, Repr

/-- Why the machine stops. Each is an access to something R70 or R35 says does not exist; no state
reachable from reset gets there. DESIGN CHOICE, log 11, safe. -/
inductive Fault where
  /-- A slot index not below `P_N`. Raised by SlotWrite and by the reads of a slot's buffer; safe. -/
  | slotRange
  /-- An arena address not below `P_ARENA`. Raised by SlotWrite and by the reads of a slot's buffer; safe. -/
  | arenaRange
  /-- A working-buffer index not below `MAX_FRAME`. Raised by FEED; safe. -/
  | wbufRange
deriving DecidableEq, Repr

/-- Why the machine refuses. -/
inductive Refusal where
  /-- An instruction with no meaning yet. No arm of `exec` raises it; safe. -/
  | notModelled (mnemonic : String)
  /-- The configuration breaks R7: no block is built from it (I18; log 8). Raised by `State.build` and by
  `step`; safe. -/
  | illFormedConfig
deriving DecidableEq, Repr

/-- Every state element at its full-reset value (R30, R340), for the configuration `c`. -/
def State.resetWith (c : Cfg) : State where
  cfg := c
  fsm := .idle
  cnt := 0#8
  wbuf := []
  rxCount := 0
  updated := List.replicate c.n false
  locked := List.replicate c.n false
  arena := []
  cursor := 0#6
  txValid := false
  txSlot := 0#6
  txLen := 0#9
  latchBoot := false
  latchBind := false
  latchMm := false
  latchPing := false
  mmId := 0x00#8
  inputs := []
  rsp := none
  mspLog := []

/-- The machine right after full reset (R340) in the reference configuration (R6; log 5), with nothing
presented on the port. -/
def State.reset : State := State.resetWith Cfg.reference

end Sys2Proof.Machine
end

