-- ==== Sys2Proof/Machine/Codes.lean ====
section
/-! DEFINITION. The codes of the response bundle: status codes (R112), route codes (R113), and the
encoding of the framer's states (R31). -/

namespace Sys2Proof.Machine

/-- The status codes of R112. The codes 0x7 to 0xF are never produced (I30) and have no constructor. -/
inductive Status where
  | ok | eSync | eLength | eCrc | empty | eRange | eIllegal
deriving DecidableEq, Repr

/-- The number of a status code (R112). -/
def Status.code : Status → BitVec 4
  | .ok => 0x0#4
  | .eSync => 0x1#4
  | .eLength => 0x2#4
  | .eCrc => 0x3#4
  | .empty => 0x4#4
  | .eRange => 0x5#4
  | .eIllegal => 0x6#4

/-- The outcomes of the classifier (R113), and `none` for no classification in this step. -/
inductive Route where
  | none | boot | bind | mm | ping | dShort | dNoMatch | dLocked | dOversize | dBothBusy
  | slot (k : Nat)
deriving DecidableEq, Repr

/-- The number of a route code (R113). -/
def Route.code : Route → BitVec 8
  | .none => 0x00#8
  | .boot => 0x01#8
  | .bind => 0x02#8
  | .mm => 0x03#8
  | .ping => 0x04#8
  | .dShort => 0x10#8
  | .dNoMatch => 0x11#8
  | .dLocked => 0x12#8
  | .dOversize => 0x13#8
  | .dBothBusy => 0x14#8
  | .slot k => BitVec.ofNat 8 (0x40 + k)

/-- The source's classifier result: whether a slot or flag action occurred (R191). -/
def Route.acted : Route → Bool
  | .boot | .bind | .mm | .ping | .slot _ => true
  | .none | .dShort | .dNoMatch | .dLocked | .dOversize | .dBothBusy => false

/-- The encoding of the framer's states (R31). No command reads it out. -/
def Fsm.code : Fsm → BitVec 2
  | .idle => 0#2
  | .rxLen => 1#2
  | .rxData => 2#2

end Sys2Proof.Machine
end

