-- ==== Sys2Proof/Machine/Flags.lean ====
section
/-! DEFINITION. The flags of the block: `updated[k]` and `locked[k]` of the Slot Table (R36, R37) and the
four control latches (R42, R43). -/

namespace Sys2Proof.Machine

/-- `updated[k]` (R36), and 0 where there is no slot `k` (log 15). -/
def State.updatedAt (s : State) (k : Nat) : Bool := s.updated.getD k false

/-- `locked[k]` (R37), and 0 where there is no slot `k` (log 15). -/
def State.lockedAt (s : State) (k : Nat) : Bool := s.locked.getD k false

/-- `updated[k] <- 1` (R36). -/
def State.markUpdated (s : State) (k : Nat) : State := { s with updated := s.updated.set k true }

/-- `locked[k] <- 1` (R37). -/
def State.lockSlot (s : State) (k : Nat) : State := { s with locked := s.locked.set k true }

/-- `locked[k] <- 0; updated[k] <- 0`, the two writes of a release (R221). -/
def State.releaseSlot (s : State) (k : Nat) : State :=
  { s with locked := s.locked.set k false, updated := s.updated.set k false }

/-- Every `updated[k]` and `locked[k]` cleared (R265). -/
def State.clearSlotFlags (s : State) : State :=
  { s with updated := List.replicate s.cfg.n false, locked := List.replicate s.cfg.n false }

/-- The number of slots with `updated[k] = 1` (R233). -/
def State.updatedCount (s : State) : Nat := (List.range s.cfg.n).countP s.updatedAt

/-- `latch_boot <- v`. -/
def State.setBoot (s : State) (v : Bool) : State := { s with latchBoot := v }

/-- `latch_bind <- v`. -/
def State.setBind (s : State) (v : Bool) : State := { s with latchBind := v }

/-- `latch_mm <- v`. -/
def State.setMm (s : State) (v : Bool) : State := { s with latchMm := v }

/-- `latch_ping <- v`. -/
def State.setPing (s : State) (v : Bool) : State := { s with latchPing := v }

/-- `latch_mm <- 1; mm_id <- id` (R175). -/
def State.captureMm (s : State) (id : Byte) : State := { s with latchMm := true, mmId := id }

end Sys2Proof.Machine
end

