-- ==== Sys2Proof/Machine/Operands.lean ====
section
/-! DEFINITION. The operands of the block: a frame and the presence of its fields (R100 to R103), and
zero extension into the data field of a response (R10, R111). -/

namespace Sys2Proof.Machine

/-- A frame as the classifier receives it (R170): its bytes `F[0 .. L+1]` and its declared length `L`. -/
structure Frame where
  bytes : List Byte
  len : Nat
deriving DecidableEq, Repr

/-- `present(j)` (R103, R192): the offset lies in bytes `2 .. N-2`, before the CRC byte. -/
def Frame.present (f : Frame) (j : Nat) : Bool := decide (2 ≤ j) && decide (j ≤ f.len)

/-- The field at offset `j`, and none where it is absent (R103). -/
def Frame.field (f : Frame) (j : Nat) : Option Byte := if f.present j then some (f.bytes.getD j 0#8) else none

/-- The frame size `N = L + 2` (R100). -/
def Frame.size (f : Frame) : Nat := f.len + 2

/-- The frame in the working buffer, `wbuf[0 .. L+1]` with `L = wbuf[1]` (R170). -/
def State.wbufFrame (s : State) : Frame :=
  let len := (s.wbuf.read 1).toNat
  ⟨s.wbuf.readBytes 0 (len + 2), len⟩

/-- The ASCII codes of the sub-opcode characters (R9, R105; I12). -/
def charB : Byte := 0x62#8

/-- `'d'` (R9). -/
def charD : Byte := 0x64#8

/-- `'l'` (R9). -/
def charL : Byte := 0x6C#8

/-- `'m'` (R9). -/
def charM : Byte := 0x6D#8

/-- `zext_32` of one bit (R10). -/
def zextBool (v : Bool) : BitVec 32 := if v then 1#32 else 0#32

/-- `zext_32` of a byte (R10). -/
def zextByte (b : Byte) : BitVec 32 := b.setWidth 32

/-- `zext_32({hi, lo})` (R9, R10). -/
def zextPair (hi lo : Byte) : BitVec 32 := (hi ++ lo).setWidth 32

end Sys2Proof.Machine
end

