-- ==== Sys2Proof/WellFormed.lean ====
section
/-! DEFINITION. The checks on what is written down before the block runs: the configuration checks of R7
with the ranges of R6, and the legality of a command word (R109). An `Instr` needs no check: its operands
are bytes, and every byte is an operand (R107). -/

namespace Sys2Proof

/-- R7(a): the number of slots. -/
def Cfg.slotCountOk (c : Cfg) : Bool := decide (2 ≤ c.n) && decide (c.n ≤ 64)

/-- R7(b): a standard slot for every slot but the two reserved ones. -/
def Cfg.stdCountOk (c : Cfg) : Bool := c.std.length + 2 == c.n

/-- R7(c): every standard capacity lies in `1..P_MAX_LEN+1`. -/
def Cfg.stdCapsOk (c : Cfg) : Bool := c.std.all fun d => decide (1 ≤ d.cap) && decide (d.cap ≤ c.maxLen + 1)

/-- R7(d): a reserved slot holds the largest frame. -/
def Cfg.resCapOk (c : Cfg) : Bool := decide (c.maxLen + 1 ≤ c.resCap)

/-- R7(e): the slots fit the arena, and the arena has 12-bit addresses. -/
def Cfg.arenaOk (c : Cfg) : Bool := decide (c.caps.sum ≤ c.arenaSize) && decide (c.arenaSize ≤ 4096)

/-- R7(f), with the upper bound of R6's range column (log 7): every offset lies in `3..255`. -/
def Cfg.offsetsOk (c : Cfg) : Bool :=
  [c.offSub0, c.offSub1, c.offMmid, c.offOrigin, c.offPingTarget, c.offVsub].all
    fun j => decide (3 ≤ j) && decide (j ≤ 255)

/-- R7(g): the maximum packet length. -/
def Cfg.maxLenOk (c : Cfg) : Bool := decide (2 ≤ c.maxLen) && decide (c.maxLen ≤ 256)

/-- The range R6 gives `P_CNT_W`. DEDUCED to be a check like those of R7, log 7, safe. -/
def Cfg.cntWOk (c : Cfg) : Bool := decide (8 ≤ c.cntW) && decide (c.cntW ≤ 64)

/-- A configuration from which a block is built (R7); all others are refused. -/
def Cfg.wf (c : Cfg) : Bool :=
  c.slotCountOk && c.stdCountOk && c.stdCapsOk && c.resCapOk && c.arenaOk && c.offsetsOk && c.maxLenOk &&
    c.cntWOk

/-- R109, word for word: `op` is 0x0 or 0xB to 0xF, or `z != 0`, or `imm8 != 0` for an `op` other than
0x1 and 0x3. -/
def CommandWord.illegal (w : CommandWord) : Bool :=
  let op := w.extractLsb' 12 4
  let z := w.extractLsb' 8 4
  let imm8 := w.extractLsb' 0 8
  op == 0x0#4 || decide (0xB#4 ≤ op) || z != 0#4 || (imm8 != 0#8 && op != 0x1#4 && op != 0x3#4)

end Sys2Proof
end

