-- ==== Sys2Proof/Machine/Ops.lean ====
section
/-! DEFINITION. The operations several meanings share: responses and error reports, the accesses to the
two byte stores, the MSP feed output, full reset, and taking the next input. The block has no trap and
nothing to return from (R300, R305): `State.reportError` is its one way of raising an error. -/

namespace Sys2Proof.Machine

/-- `respond(status, ok, done, route, data)` (R10, R111). -/
def State.respond (s : State) (status : Status) (ok done : Bool) (route : Route) (data : BitVec 32) : State :=
  { s with rsp := some ⟨status.code, ok, done, route.code, data⟩ }

/-- `respond(OK, 1, 0, RT_NONE, data)`: a command that completes normally (R111). -/
def State.respondOk (s : State) (data : BitVec 32) : State := s.respond .ok true false .none data

/-- Raising an error: its code in the response of the command that met it, every other signal 0, and no
state written here (R10, R300). -/
def State.reportError (s : State) (e : Status) : State := s.respond e false false .none 0#32

/-- The outcome of a meaning: its next state, or the fault it met. -/
def outcome : Except Fault State → Host.Outcome State Fault Refusal
  | .ok s => .next s
  | .error e => .fault e

/-- `wbuf[i] <- b`; there is no byte `i` from `MAX_FRAME` on (R70; log 11). -/
def State.writeWbuf (s : State) (i : Nat) (b : Byte) : Except Fault State :=
  if i < s.cfg.maxFrame then .ok { s with wbuf := s.wbuf.write i b } else .error .wbufRange

/-- `SlotWrite(k, F, N)` of R74: the bytes of the frame from `base[k]` on, then `updated[k] <- 1`. The tail
of the slot and `locked[k]` are left as they are. -/
def State.slotWrite (s : State) (k : Nat) (bytes : List Byte) : Except Fault State :=
  if k < s.cfg.n then
    if s.cfg.base k + bytes.length ≤ s.cfg.arenaSize then
      .ok ({ s with arena := s.arena.writeBytes (s.cfg.base k) bytes }.markUpdated k)
    else .error .arenaRange
  else .error .slotRange

/-- `arena[base[k] + i]` (R72). -/
def State.slotByte (s : State) (k i : Nat) : Byte := s.arena.read (s.cfg.base k + i)

/-- `slotByte` where slot `k` and the arena address exist (R70, R35; log 11). -/
def State.readSlotByte (s : State) (k i : Nat) : Except Fault Byte :=
  if k < s.cfg.n then
    if s.cfg.base k + i < s.cfg.arenaSize then .ok (s.slotByte k i) else .error .arenaRange
  else .error .slotRange

/-- `emit MSP_FEED(F)`: one event appended to the output log (R82). -/
def State.emitMsp (s : State) (bytes : List Byte) : State := { s with mspLog := s.mspLog ++ [bytes] }

/-- The reset input (R340): every state element at its full-reset value, no response and no MSP event. What
the environment holds stays: the inputs still to come and the events already taken (log 4). -/
def State.fullReset (s : State) : State :=
  { State.resetWith s.cfg with inputs := s.inputs, mspLog := s.mspLog }

/-- An illegal command word (R266): `E_ILLEGAL` and no state changed. -/
def State.answerIllegal (s : State) : State := s.reportError .eIllegal

/-- A step in which nothing is presented: no state changes and no response is given (log 2). -/
def State.idle (s : State) : State := { s with rsp := none }

/-- The block built from a configuration, in the state after full reset, or refused (R7, R343). -/
def State.build (c : Cfg) : Host.Outcome State Fault Refusal :=
  if c.wf then .next (State.resetWith c) else .refused .illFormedConfig

end Sys2Proof.Machine
end

