-- ==== Sys2Proof/Machine/Control.lean ====
section
/-! DEFINITION. The control latches and link reset: the meanings of `take.boot` (R260), `take.bind` (R261),
`take.mm` (R262), `take.ping` (R263) and `linkrst` (R265). -/

namespace Sys2Proof.Machine

/-- The response of a boolean latch read: `respond(OK, v, 0, RT_NONE, zext_32(v))` (R260). -/
def State.respondLatch (s : State) (v : Bool) : State := s.respond .ok v false .none (zextBool v)

/-- `take.boot` (R260). -/
def execTakeBoot (s : State) : Host.Outcome State Fault Refusal :=
  .next ((s.setBoot false).respondLatch s.latchBoot)

/-- `take.bind` (R261). -/
def execTakeBind (s : State) : Host.Outcome State Fault Refusal :=
  .next ((s.setBind false).respondLatch s.latchBind)

/-- `take.mm` (R262): the id beside a 1 in bit 8 when the latch was set, nothing otherwise. -/
def execTakeMm (s : State) : Host.Outcome State Fault Refusal :=
  .next ((s.setMm false).respond .ok s.latchMm false .none (if s.latchMm then zextPair 0x01#8 s.mmId else 0#32))

/-- `take.ping` (R263). -/
def execTakePing (s : State) : Host.Outcome State Fault Refusal :=
  .next ((s.setPing false).respondLatch s.latchPing)

/-- `linkrst` (R265): the slot flags and `tx_valid`, and nothing else. -/
def execLinkrst (s : State) : Host.Outcome State Fault Refusal :=
  .next ({ s.clearSlotFlags with txValid := false }.respondOk 0#32)

end Sys2Proof.Machine
end

