-- ==== Sys2Proof/Machine/Classifier.lean ====
section
/-! DEFINITION. The Classifier/Router (R170 to R195): the control rules 1 to 4, MSP forwarding (rule 5), the
reserved-slot routing (rule 6), the standard-slot search (rule 7), and CLASSIFY, which applies them in the
order of R192. It runs inside FEED, in the step that completes a CRC-valid frame. -/

namespace Sys2Proof.Machine

/-- What rules 1 to 4 decide: the latch to set, with the model-match id of rule 3. -/
inductive Control where
  | boot
  | bind
  | mm (id : Byte)
  | ping
deriving DecidableEq, Repr

/-- What rules 6 and 7 decide: the slot to store in, or the route code of a drop. -/
inductive Storage where
  | store (k : Nat)
  | drop (route : Route)
deriving DecidableEq, Repr

/-- The two sub-opcode bytes are present and are `s0` and `s1` (R105). -/
def hasSubOpcode (c : Cfg) (f : Frame) (s0 s1 : Byte) : Bool :=
  f.field c.offSub0 == some s0 && f.field c.offSub1 == some s1

/-- Rule 1, bootloader (R173). -/
def ruleBoot (c : Cfg) (f : Frame) (t : Byte) : Option Control :=
  if t = c.tCommand ∧ hasSubOpcode c f charB charL then some .boot else none

/-- Rule 2, enter bind (R174). -/
def ruleBind (c : Cfg) (f : Frame) (t : Byte) : Option Control :=
  if t = c.tCommand ∧ hasSubOpcode c f charB charD then some .bind else none

/-- Rule 3, model match (R175); without the id byte it does not match. -/
def ruleMm (c : Cfg) (f : Frame) (t : Byte) : Option Control :=
  if t = c.tCommand ∧ hasSubOpcode c f charM charM then (f.field c.offMmid).map .mm else none

/-- Rule 4, device ping for the receiver's own address (R176). -/
def rulePing (c : Cfg) (f : Frame) (t : Byte) : Option Control :=
  if t = c.tDevicePing ∧ f.field c.offPingTarget = some c.syncRx then some .ping else none

/-- Rules 1 to 4 in order; the first that matches ends classification (R171). -/
def controlOf (c : Cfg) (f : Frame) (t : Byte) : Option Control :=
  (ruleBoot c f t).or ((ruleBind c f t).or ((ruleMm c f t).or (rulePing c f t)))

/-- The type is MSP_REQUEST or MSP_RESPONSE (R177). -/
def isMsp (c : Cfg) (t : Byte) : Bool := t == c.tMspReq || t == c.tMspResp

/-- Rule 6 (R178 to R184): the routing of an extended frame to a reserved slot. `locked` is read nowhere
(R190). -/
def routeExtended (s : State) (f : Frame) (t : Byte) : Storage :=
  if t = s.cfg.tVendorResp then
    match f.field s.cfg.offVsub with
    | none => .drop .dShort
    | some sub => if sub = s.cfg.stStatusText then .store s.cfg.res1 else .store s.cfg.res2
  else
    match f.field s.cfg.offOrigin with
    | none => .drop .dShort
    | some origin =>
      if origin = s.cfg.addrFc then
        if isMsp s.cfg t && s.updatedAt s.cfg.res2 then
          if s.updatedAt s.cfg.res1 then .drop .dBothBusy else .store s.cfg.res1
        else .store s.cfg.res2
      else .store s.cfg.res1

/-- Rule 7 (R185 to R188): the first standard slot whose filter is the type decides, `locked` tested before
the size. -/
def routeStandard (s : State) (f : Frame) (t : Byte) : Storage :=
  match s.cfg.std.findIdx? (fun d => d.filter == t) with
  | none => .drop .dNoMatch
  | some k =>
    if s.lockedAt k then .drop .dLocked
    else if s.cfg.cap k < f.size then .drop .dOversize
    else .store k

/-- Rule 6 for an extended type, rule 7 for any other (R171). -/
def storageOf (s : State) (f : Frame) (t : Byte) : Storage :=
  if s.cfg.tExtFirst ≤ t then routeExtended s f t else routeStandard s f t

/-- The effect of rules 1 to 4: one latch, and `mm_id` with rule 3. Setting a set latch leaves it set
(R193). -/
def State.applyControl (s : State) : Control → State
  | .boot => s.setBoot true
  | .bind => s.setBind true
  | .mm id => s.captureMm id
  | .ping => s.setPing true

/-- The route codes of rules 1 to 4 (R113). -/
def Control.route : Control → Route
  | .boot => .boot
  | .bind => .bind
  | .mm _ => .mm
  | .ping => .ping

/-- Rule 5: the whole frame to the MSP feed, when the type is MSP (R177). -/
def State.forwardMsp (s : State) (f : Frame) (t : Byte) : State :=
  if isMsp s.cfg t then s.emitMsp f.bytes else s

/-- A frame stored by `SlotWrite`, or dropped with no slot changed (R189, R302). -/
def State.applyStorage (s : State) (f : Frame) : Storage → Except Fault (State × Route)
  | .drop route => .ok (s, route)
  | .store k =>
    match s.slotWrite k f.bytes with
    | .ok s' => .ok (s', .slot k)
    | .error e => .error e

/-- CLASSIFY (R192): the state after the frame and its route code. -/
def classify (s : State) (f : Frame) : Except Fault (State × Route) :=
  match f.field 2 with
  | none => .ok (s, .dShort)
  | some t =>
    match controlOf s.cfg f t with
    | some ctl => .ok (s.applyControl ctl, ctl.route)
    | none => (s.forwardMsp f t).applyStorage f (storageOf s f t)

end Sys2Proof.Machine
end

