-- ==== Sys2Proof/Machine/Framer.lean ====
section
/-! DEFINITION. The RX Framer: the meaning of `feed` (R140 to R154). -/

namespace Sys2Proof.Machine

/-- FEED in IDLE (R141). -/
def feedIdle (b : Byte) (s : State) : Except Fault State :=
  if s.cfg.isSync b then
    match s.writeWbuf 0 b with
    | .ok s' => .ok ({ s' with fsm := .rxLen }.respondOk 0#32)
    | .error e => .error e
  else .ok (s.reportError .eSync)

/-- FEED in RX_LEN (R142): the length guard, which also rejects 0. -/
def feedLength (b : Byte) (s : State) : Except Fault State :=
  if s.cfg.maxLen ≤ b.toNat ∨ b = 0#8 then .ok ({ s with fsm := .idle }.reportError .eLength)
  else
    match s.writeWbuf 1 b with
    | .ok s' => .ok ({ s' with cnt := 0#8, fsm := .rxData }.respondOk 0#32)
    | .error e => .error e

/-- The CRC of a frame, over bytes `2 .. L`, which are `L - 1` bytes (R145). -/
def frameCrc (c : Cfg) (f : Frame) : Byte := c.crc8 (f.bytes.drop 2) (f.len - 1)

/-- `rx_count <- (rx_count + 1) mod 2^P_CNT_W` (R34, R140). -/
def State.countFrame (s : State) : State := { s with rxCount := (s.rxCount + 1) % 2 ^ s.cfg.cntW }

/-- The byte that completes a frame (R144 to R147): the CRC check, then the classifier and the counter on a
match, or a discard on a mismatch. -/
def completeFrame (b : Byte) (s : State) : Except Fault State :=
  let f := s.wbufFrame
  if f.size ≤ s.cfg.maxFrame then
    if b = frameCrc s.cfg f then
      match classify s f with
      | .ok (s', route) => .ok (s'.countFrame.respond .ok true true route 0#32)
      | .error e => .error e
    else .ok (s.reportError .eCrc)
  else .error .wbufRange

/-- FEED in RX_DATA (R143, R144): append, then test for completion with the values after the two writes. -/
def feedData (b : Byte) (s : State) : Except Fault State :=
  match s.writeWbuf (2 + s.cnt.toNat) b with
  | .error e => .error e
  | .ok s' =>
    let s'' := { s' with cnt := s'.cnt + 1#8 }
    if s''.cnt = s''.wbuf.read 1 then completeFrame b { s'' with fsm := .idle }
    else .ok (s''.respondOk 0#32)

/-- `feed b` (R140). -/
def execFeed (b : Byte) (s : State) : Host.Outcome State Fault Refusal :=
  match s.fsm with
  | .idle => outcome (feedIdle b s)
  | .rxLen => outcome (feedLength b s)
  | .rxData => outcome (feedData b s)

end Sys2Proof.Machine
end

