-- ==== Sys2Proof/Machine/Scheduler.lean ====
section
/-! DEFINITION. The Outbound Scheduler and the counters: the meanings of `next` (R220 to R229), `rdtx` (R230
to R232), `cnt.upd` (R233) and `cnt.rx` (R234). -/

namespace Sys2Proof.Machine

/-- The release of the slot under the cursor, if it is locked (R221). -/
def State.releaseCursor (s : State) : State :=
  if s.lockedAt s.cursor.toNat then s.releaseSlot s.cursor.toNat else s

/-- The slots a lap examines, in order: `start+1 .. start+P_N` modulo `P_N` (R222). -/
def lapOrder (n start : Nat) : List Nat := (List.range n).map fun j => (start + 1 + j) % n

/-- The slot the lap stops at: the first with `updated = 1` (R222). -/
def State.lap (s : State) : Option Nat := (lapOrder s.cfg.n s.cursor.toNat).find? s.updatedAt

/-- Trailing 0x00 bytes of slot `k` taken off a length, while it is above 0 (R224). -/
def State.trimZeros (s : State) (k : Nat) : Nat → Nat
  | 0 => 0
  | r + 1 => if s.slotByte k r = 0x00#8 then s.trimZeros k r else r + 1

/-- The frame size declared in the slot's own length byte, where the trim starts (R224). -/
def State.declaredSize (s : State) (k : Nat) : Nat := (s.slotByte k 1).toNat + 2

/-- The trim of slot `k` (R224). The bytes it reads are those below the declared size; all must exist
(log 11). -/
def State.trim (s : State) (k : Nat) : Except Fault Nat :=
  if k < s.cfg.n then
    if s.cfg.base k + 1 < s.cfg.arenaSize ∧ s.cfg.base k + s.declaredSize k ≤ s.cfg.arenaSize then
      .ok (s.trimZeros k (s.declaredSize k))
    else .error .arenaRange
  else .error .slotRange

/-- No payload: the cursor stays where the lap started, no view (R225, R227). -/
def State.noPayload (s : State) : State := { s with txValid := false }.reportError .empty

/-- The view of `r` bytes of slot `k` (R226), with `rsp_data = {k[7:0], r[7:0]}` (R220). -/
def State.present (s : State) (k r : Nat) : State :=
  { s with
      cursor := BitVec.ofNat 6 k, txValid := true, txSlot := BitVec.ofNat 6 k,
      txLen := BitVec.ofNat 9 r }.respondOk (zextPair (BitVec.ofNat 8 k) (BitVec.ofNat 8 r))

/-- Select and lock slot `k` (R223), trim it, and present it unless nothing is left (R225, R226). -/
def State.selectSlot (s : State) (k : Nat) : Except Fault State :=
  match (s.lockSlot k).trim k with
  | .error e => .error e
  | .ok 0 => .ok (s.lockSlot k).noPayload
  | .ok (r + 1) => .ok ((s.lockSlot k).present k (r + 1))

/-- NEXT_PAYLOAD after the release: the lap, and what it finds (R222 to R227). -/
def State.advance (s : State) : Except Fault State :=
  match s.lap with
  | none => .ok s.noPayload
  | some k => s.selectSlot k

/-- `next` (R220). -/
def execNext (s : State) : Host.Outcome State Fault Refusal := outcome s.releaseCursor.advance

/-- READ_TX inside the view: the substituted length byte at offset 1 (R231), the live arena byte elsewhere
(R81, R230). -/
def State.readView (s : State) (i : Nat) : Except Fault State :=
  if i = 1 then .ok (s.respondOk (zextByte (BitVec.ofNat 8 ((s.txLen.toNat - 2) % 256))))
  else
    match s.readSlotByte s.txSlot.toNat i with
    | .ok b => .ok (s.respondOk (zextByte b))
    | .error e => .error e

/-- `rdtx i` (R230, R232). -/
def execRdtx (i : Byte) (s : State) : Host.Outcome State Fault Refusal :=
  if s.txValid = false ∨ s.txLen.toNat ≤ i.toNat then .next (s.reportError .eRange)
  else outcome (s.readView i.toNat)

/-- `cnt.upd` (R233). -/
def execCntUpd (s : State) : Host.Outcome State Fault Refusal :=
  .next (s.respondOk (BitVec.ofNat 32 s.updatedCount))

/-- `cnt.rx` (R234): the low 32 bits of the counter. -/
def execCntRx (s : State) : Host.Outcome State Fault Refusal := .next (s.respondOk (BitVec.ofNat 32 s.rxCount))

end Sys2Proof.Machine
end

