-- ==== Sys2Proof/Machine/Dispatch.lean ====
section
/-! DEFINITION. One arm for each command of the opcode map (R108). -/

namespace Sys2Proof.Machine

def exec (i : Instr) (s : State) : Host.Outcome State Fault Refusal :=
  match i with
  | .feed b => Sys2Proof.Machine.execFeed b s
  | .next => Sys2Proof.Machine.execNext s
  | .rdtx off => Sys2Proof.Machine.execRdtx off s
  | .takeBoot => Sys2Proof.Machine.execTakeBoot s
  | .takeBind => Sys2Proof.Machine.execTakeBind s
  | .takeMm => Sys2Proof.Machine.execTakeMm s
  | .takePing => Sys2Proof.Machine.execTakePing s
  | .cntUpd => Sys2Proof.Machine.execCntUpd s
  | .cntRx => Sys2Proof.Machine.execCntRx s
  | .linkrst => Sys2Proof.Machine.execLinkrst s

end Sys2Proof.Machine
end

