-- ==== Sys2Proof/Machine/Port.lean ====
section
/-! DEFINITION. The command port (R5, R106): what accepting one command word does. -/

namespace Sys2Proof.Machine

/-- One command word accepted on the port: its operation, or `E_ILLEGAL` (R116), in one step (R75). -/
def acceptCommand (w : CommandWord) (s : State) : Host.Outcome State Fault Refusal :=
  match decode w with
  | .ok i => exec i s
  | .error _ => .next s.answerIllegal

/-- One thing the environment presents, performed (R106, R340). -/
def acceptInput : Input → State → Host.Outcome State Fault Refusal
  | .command w, s => acceptCommand w s
  | .fullReset, s => .next s.fullReset

/-- The command presented by a word of an opcode-table row. -/
def presentWord (nbits w : Nat) : Input := .command (tableWord nbits w)

end Sys2Proof.Machine
end

