-- ==== Sys2Proof/Machine/Step.lean ====
section
/-! DEFINITION. One step of the block (R5): the next thing presented on the port is taken and performed
whole. The block fetches nothing (R79). -/

namespace Sys2Proof.Machine

/-- One step. From an ill-formed configuration no block exists (R7; log 8). With nothing presented the block
waits (log 2). Otherwise the first input is taken off the port and performed (R76). -/
def step (s : State) : Host.Outcome State Fault Refusal :=
  if s.cfg.wf then
    match s.inputs with
    | [] => .next s.idle
    | input :: rest => acceptInput input { s with inputs := rest }
  else .refused .illFormedConfig

/-- The state with the instruction of `nbits` bits `w` presented on the port before everything else, so that
the next step performs it. The presentation stands for the environment's (log 1). -/
def State.withFetchWord (s : State) (nbits w : Nat) : State :=
  { s with inputs := presentWord nbits w :: s.inputs }

end Sys2Proof.Machine
end

