-- ==== Sys2Proof/Machine/Assembler.lean ====
section
/-! DEFINITION. The assembler syntax of R114 and the pseudo-instructions of R115. The block does not see
them; they name command words. What R114 leaves open of the text is log 16, the `.word` line log 17. -/

namespace Sys2Proof.Machine

/-- `bytes b0, ..., bn`: one `feed` for each byte (R115(b)). -/
def asmBytes (bs : List Byte) : List Instr := bs.map .feed

/-- `frame S, T, p1, ..., pk`: the bytes of a well-formed frame with its length and CRC (R115(a), R100). -/
def asmFrame (c : Cfg) (sync type : Byte) (payload : List Byte) : List Instr :=
  let body := type :: payload
  asmBytes (sync :: BitVec.ofNat 8 (payload.length + 2) :: (body ++ [c.crc8 body body.length]))

/-- `rdtx.all n`: `rdtx 0` to `rdtx n-1` (R115(c)). -/
def asmRdtxAll (n : Nat) : List Instr := (List.range n).map fun i => .rdtx (BitVec.ofNat 8 i)

/-- The digit a character stands for in the given base. -/
def asmDigit (base : Nat) (ch : Char) : Option Nat :=
  let n := ch.toNat
  let d :=
    if 0x30 ≤ n ∧ n ≤ 0x39 then n - 0x30
    else if 0x41 ≤ n ∧ n ≤ 0x46 then n - 0x41 + 10
    else if 0x61 ≤ n ∧ n ≤ 0x66 then n - 0x61 + 10
    else base
  if d < base then some d else none

/-- The number written by digits after the value `acc`. -/
def asmDigits (base acc : Nat) : List Char → Option Nat
  | [] => some acc
  | ch :: rest =>
    match asmDigit base ch with
    | some d => asmDigits base (acc * base + d) rest
    | none => none

/-- A number: `0xHH`, or decimal (R114). -/
def asmNumber : List Char → Option Nat
  | [] => none
  | '0' :: 'x' :: h :: rest => asmDigits 16 0 (h :: rest)
  | ds => asmDigits 10 0 ds

/-- A byte operand: a number, or a quoted character for its code (R9, R114). -/
def asmByte (tok : List Char) : Option Byte :=
  let value :=
    match tok with
    | ['\'', ch, '\''] => some ch.toNat
    | ds => asmNumber ds
  match value with
  | some v => if v < 256 then some (BitVec.ofNat 8 v) else none
  | none => none

/-- The tokens of a line: words and commas; a `;` outside quotes starts a comment (R114). -/
def asmTokens (word : List Char) : List Char → List (List Char)
  | [] => if word = [] then [] else [word]
  | '\'' :: ch :: '\'' :: rest => asmTokens (word ++ ['\'', ch, '\'']) rest
  | ch :: rest =>
    let done := if word = [] then [] else [word]
    if ch = ';' then done
    else if ch = ' ' then done ++ asmTokens [] rest
    else if ch = ',' then done ++ ([','] :: asmTokens [] rest)
    else asmTokens (word ++ [ch]) rest

/-- Byte operands with commas between them (R115). -/
def asmOperands : List (List Char) → Option (List Byte)
  | [] => none
  | [tok] => (asmByte tok).map fun b => [b]
  | tok :: comma :: rest =>
    if comma = [','] then
      match asmByte tok, asmOperands rest with
      | some b, some bs => some (b :: bs)
      | _, _ => none
    else none

/-- The operation a mnemonic without operand names (R108). -/
def asmPlain (word : List Char) : Option Instr :=
  if word = ['n', 'e', 'x', 't'] then some .next
  else if word = ['t', 'a', 'k', 'e', '.', 'b', 'o', 'o', 't'] then some .takeBoot
  else if word = ['t', 'a', 'k', 'e', '.', 'b', 'i', 'n', 'd'] then some .takeBind
  else if word = ['t', 'a', 'k', 'e', '.', 'm', 'm'] then some .takeMm
  else if word = ['t', 'a', 'k', 'e', '.', 'p', 'i', 'n', 'g'] then some .takePing
  else if word = ['c', 'n', 't', '.', 'u', 'p', 'd'] then some .cntUpd
  else if word = ['c', 'n', 't', '.', 'r', 'x'] then some .cntRx
  else if word = ['l', 'i', 'n', 'k', 'r', 's', 't'] then some .linkrst
  else none

/-- The commands of a line's mnemonic and operands (R114, R115; what they leave open is log 16). -/
def asmWords (c : Cfg) : List (List Char) → Option (List Instr)
  | [] => some []
  | [word] => (asmPlain word).map fun i => [i]
  | word :: operands =>
    if word = ['f', 'e', 'e', 'd'] then
      match operands with
      | [tok] => (asmByte tok).map fun b => [.feed b]
      | _ => none
    else if word = ['r', 'd', 't', 'x'] then
      match operands with
      | [tok] => (asmByte tok).map fun b => [.rdtx b]
      | _ => none
    else if word = ['r', 'd', 't', 'x', '.', 'a', 'l', 'l'] then
      match operands with
      | [tok] => (asmNumber tok).bind fun n => if n ≤ 256 then some (asmRdtxAll n) else none
      | _ => none
    else if word = ['b', 'y', 't', 'e', 's'] then (asmOperands operands).map asmBytes
    else if word = ['f', 'r', 'a', 'm', 'e'] then
      match asmOperands operands with
      | some (sync :: type :: payload) =>
        if payload.length + 2 < 256 then some (asmFrame c sync type payload) else none
      | _ => none
    else none

/-- The word of a `.word` line: one number of at most 16 bits, taken as the command word, legal or not. The programs
of 95_test_vectors.md write illegal words so under the heading of R114, and R114 does not define the form.
DESIGN CHOICE, log 17, safe. -/
def asmRawWord : List (List Char) → Option CommandWord
  | [tok] => (asmNumber tok).bind fun n => if n < 65536 then some (BitVec.ofNat 16 n) else none
  | _ => none

/-- The command words of a line's tokens: one raw word (log 17), or the words of its commands (R108). -/
def asmLine (c : Cfg) : List (List Char) → Option (List CommandWord)
  | [] => some []
  | word :: operands =>
    if word = ['.', 'w', 'o', 'r', 'd'] then (asmRawWord operands).map fun w => [w]
    else (asmWords c (word :: operands)).map fun is => is.map encode

/-- The command words of one line of text; none where the line is neither of R114's and R115's form nor a `.word`
(log 16, log 17). -/
def assembleLine (c : Cfg) (line : List Char) : Option (List CommandWord) := asmLine c (asmTokens [] line)

/-- The command words of a program, one line after another (R114). -/
def assemble (c : Cfg) : List (List Char) → Option (List CommandWord)
  | [] => some []
  | line :: rest =>
    match assembleLine c line, assemble c rest with
    | some ws, some ws' => some (ws ++ ws')
    | _, _ => none

end Sys2Proof.Machine
end

