-- ==== Sys2Proof/Safety.lean ====
section
/-! DEFINITION. What a safe state is: the invariants the spec states of every reachable state (R30, R31 to
R41, R38, R151, R224, R225, I27), collected as `GoodState`. -/

namespace Sys2Proof.Machine

/-- The registers and stores lie in the ranges R30 gives them, and the stores are canonical. -/
structure RangesOk (s : State) : Prop where
  /-- A configuration of R7. -/
  cfg : s.cfg.wf = true
  /-- One `updated` flag for each slot (R36). -/
  updated : s.updated.length = s.cfg.n
  /-- One `locked` flag for each slot (R37). -/
  locked : s.locked.length = s.cfg.n
  /-- `cursor` is a slot index (R40). -/
  cursor : s.cursor.toNat < s.cfg.n
  /-- `rx_count` has `P_CNT_W` bits (R34). -/
  rxCount : s.rxCount < 2 ^ s.cfg.cntW
  /-- The working buffer is canonical. -/
  wbufWf : s.wbuf.wf = true
  /-- The working buffer has `MAX_FRAME` bytes (R33). -/
  wbufSize : s.wbuf.below s.cfg.maxFrame = true
  /-- The arena is canonical. -/
  arenaWf : s.arena.wf = true
  /-- The arena has `P_ARENA` bytes (R39). -/
  arenaSize : s.arena.below s.cfg.arenaSize = true

/-- The framer's invariants (R151). -/
structure FramerOk (s : State) : Prop where
  /-- In RX_DATA the declared length is one that RX_LEN accepts. -/
  length : s.fsm = .rxData → 1 ≤ (s.wbuf.read 1).toNat ∧ (s.wbuf.read 1).toNat ≤ s.cfg.maxLen - 1
  /-- In RX_DATA the byte counter is below the declared length. -/
  count : s.fsm = .rxData → s.cnt.toNat < (s.wbuf.read 1).toNat
  /-- Outside IDLE byte 0 of the working buffer is a sync value. -/
  sync : s.fsm ≠ .idle → s.cfg.isSync (s.wbuf.read 0) = true

/-- The invariants of the Slot Table and the view (R38, R224, R225, I27). -/
structure SlotsOk (s : State) : Prop where
  /-- A locked slot is updated (R38). -/
  lockedUpdated : ∀ k, s.lockedAt k = true → s.updatedAt k = true
  /-- An updated slot holds a frame with a type byte, that fits the slot and the largest frame (R225). -/
  declared : ∀ k, s.updatedAt k = true →
    2 ≤ (s.slotByte k 1).toNat ∧ s.declaredSize k ≤ s.cfg.cap k ∧ s.declaredSize k ≤ s.cfg.maxFrame
  /-- The only locked slot is the one presented. -/
  lockedView : ∀ k, s.lockedAt k = true → s.txValid = true ∧ k = s.txSlot.toNat
  /-- The presented slot is the one under the cursor, and locked (I27). -/
  viewLocked : s.txValid = true → s.txSlot = s.cursor ∧ s.lockedAt s.txSlot.toNat = true
  /-- The view lies inside its slot and the largest frame, and has its two header bytes (R41, R225). -/
  viewLength : s.txValid = true →
    2 ≤ s.txLen.toNat ∧ s.txLen.toNat ≤ s.cfg.cap s.txSlot.toNat ∧ s.txLen.toNat ≤ s.cfg.maxFrame

/-- What holds of every reachable state. -/
structure GoodState (s : State) : Prop where
  ranges : RangesOk s
  framer : FramerOk s
  slots : SlotsOk s

/-- The byte `b` completes a frame: RX_DATA, and the count after this byte is the declared length (R144). -/
def completes (b : Byte) (s : State) : Prop :=
  s.fsm = .rxData ∧ s.cnt + 1#8 = (s.wbuf.write (2 + s.cnt.toNat) b).read 1

/-- The frame that `b` completes: the working buffer's first `L + 2` bytes after `b` is appended (R144, R170). -/
def completedFrame (b : Byte) (s : State) : Frame :=
  { s with wbuf := s.wbuf.write (2 + s.cnt.toNat) b }.wbufFrame

/-- The byte `b` completes a frame whose CRC matches: it equals the CRC over bytes `2 .. L` (R145, R146). -/
def completesValid (b : Byte) (s : State) : Prop :=
  completes b s ∧
    b = s.cfg.crc8 ((completedFrame b s).bytes.drop 2) ((completedFrame b s).len - 1)

/-- None of rules 1 to 3 matches a frame of type `ty` (R173 to R175). -/
def NoCommandRule (c : Cfg) (f : Frame) (ty : Byte) : Prop :=
  ty = c.tCommand →
    ¬ (f.field c.offSub0 = some 0x62#8 ∧ f.field c.offSub1 = some 0x6C#8) ∧
    ¬ (f.field c.offSub0 = some 0x62#8 ∧ f.field c.offSub1 = some 0x64#8) ∧
    ¬ (f.field c.offSub0 = some 0x6D#8 ∧ f.field c.offSub1 = some 0x6D#8 ∧ f.field c.offMmid ≠ none)

/-- None of rules 1 to 4 matches a frame of type `ty` (R173 to R176). -/
def NoControlRule (c : Cfg) (f : Frame) (ty : Byte) : Prop :=
  NoCommandRule c f ty ∧ ¬ (ty = c.tDevicePing ∧ f.field c.offPingTarget = some c.syncRx)

/-- What a FEED that completes a CRC-valid frame leaves whatever the classifier decides (R146), with the route
code reported; and all that FEED never writes (R45). -/
structure Received (b : Byte) (s t : State) (route : BitVec 8) : Prop where
  fsm : t.fsm = .idle
  cnt : t.cnt = s.cnt + 1#8
  wbuf : ∀ i, t.wbuf.read i = if i = 2 + s.cnt.toNat then b else s.wbuf.read i
  rxCount : t.rxCount = (s.rxCount + 1) % 2 ^ s.cfg.cntW
  rsp : t.rsp = some ⟨0x0#4, true, true, route, 0#32⟩
  cfg : t.cfg = s.cfg
  locked : t.locked = s.locked
  cursor : t.cursor = s.cursor
  txValid : t.txValid = s.txValid
  txSlot : t.txSlot = s.txSlot
  txLen : t.txLen = s.txLen
  inputs : t.inputs = s.inputs

/-- The four latches and the model-match id are as before. -/
structure LatchesKept (s t : State) : Prop where
  boot : t.latchBoot = s.latchBoot
  bind : t.latchBind = s.latchBind
  mm : t.latchMm = s.latchMm
  ping : t.latchPing = s.latchPing
  mmId : t.mmId = s.mmId

/-- No slot is written, no flag, and no MSP event is emitted. -/
structure SlotsKept (s t : State) : Prop where
  arena : ∀ a, t.arena.read a = s.arena.read a
  updated : t.updated = s.updated
  mspLog : t.mspLog = s.mspLog

/-- The MSP output log after the frame that `b` completes, when rule 5 is reached (R177). -/
def mspLogAfter (b : Byte) (s : State) : List (List Byte) :=
  match (completedFrame b s).field 2 with
  | none => s.mspLog
  | some ty =>
    if ty = s.cfg.tMspReq ∨ ty = s.cfg.tMspResp then s.mspLog ++ [(completedFrame b s).bytes] else s.mspLog

/-- The frame that `b` completes is stored in slot `k` (R74, R189): its bytes from `base[k]` on, `updated[k]`,
and no other byte or flag. -/
structure StoredIn (b : Byte) (s t : State) (k : Nat) : Prop where
  received : Received b s t (BitVec.ofNat 8 (0x40 + k))
  latches : LatchesKept s t
  bytes : ∀ i, i < (completedFrame b s).size → t.slotByte k i = (completedFrame b s).bytes.getD i 0#8
  others : ∀ a, (a < s.cfg.base k ∨ s.cfg.base k + (completedFrame b s).size ≤ a) →
    t.arena.read a = s.arena.read a
  updatedHere : t.updatedAt k = true
  updatedElsewhere : ∀ j, j ≠ k → t.updatedAt j = s.updatedAt j
  mspLog : t.mspLog = mspLogAfter b s

/-- The frame that `b` completes is dropped with a route code (R302): no slot, no flag and no latch changes. -/
structure DroppedWith (b : Byte) (s t : State) (route : BitVec 8) : Prop where
  received : Received b s t route
  latches : LatchesKept s t
  arena : ∀ a, t.arena.read a = s.arena.read a
  updated : t.updated = s.updated
  mspLog : t.mspLog = mspLogAfter b s

/-- Slot `k` is ready for a lap of NEXT_PAYLOAD: updated, and not released by this very command (R221, R222). -/
def Ready (s : State) (k : Nat) : Prop :=
  s.updatedAt k = true ∧ ¬ (k = s.cursor.toNat ∧ s.lockedAt k = true)

/-- Slot `k` is the first ready slot of the lap, `j` advances after the first one (R222). -/
def FirstReady (s : State) (j k : Nat) : Prop :=
  j < s.cfg.n ∧ k = (s.cursor.toNat + 1 + j) % s.cfg.n ∧ Ready s k ∧
    ∀ i, i < j → ¬ Ready s ((s.cursor.toNat + 1 + i) % s.cfg.n)

/-- `m` is the trimmed length of slot `k` (R224): the declared size less the trailing 0x00 bytes. -/
def TrimmedTo (s : State) (k m : Nat) : Prop :=
  m ≤ (s.slotByte k 1).toNat + 2 ∧ (m = 0 ∨ s.slotByte k (m - 1) ≠ 0x00#8) ∧
    ∀ i, m ≤ i → i < (s.slotByte k 1).toNat + 2 → s.slotByte k i = 0x00#8

/-- What NEXT_PAYLOAD never writes (R45). -/
structure ReceiveSideKept (s t : State) : Prop where
  cfg : t.cfg = s.cfg
  fsm : t.fsm = s.fsm
  cnt : t.cnt = s.cnt
  wbuf : ∀ i, t.wbuf.read i = s.wbuf.read i
  rxCount : t.rxCount = s.rxCount
  arena : ∀ a, t.arena.read a = s.arena.read a
  latches : LatchesKept s t
  inputs : t.inputs = s.inputs
  mspLog : t.mspLog = s.mspLog

/-- The flags after the release of NEXT_PAYLOAD (R221) and the lock of the slots in `chosen` (R223). -/
structure FlagsAfterNext (s t : State) (chosen : Option Nat) : Prop where
  updated : ∀ k, t.updatedAt k =
    if k = s.cursor.toNat ∧ s.lockedAt k = true then false else s.updatedAt k
  locked : ∀ k, t.lockedAt k =
    if chosen = some k then true else if k = s.cursor.toNat then false else s.lockedAt k

/-- A list of commands, one a step, stopping at the first that does not answer a next state. -/
def runCommands : List Instr → State → Host.Outcome State Fault Refusal
  | [], s => .next s
  | i :: is, s =>
    match exec i s with
    | .next t => runCommands is t
    | .fault e => .fault e
    | .refused e => .refused e

/-- The frame-done pulses in the first `k` steps (R150). -/
def donePulses : Nat → State → Nat
  | 0, _ => 0
  | k + 1, s =>
    match step s with
    | .next t => (match t.rsp with | some r => r.done.toNat | none => 0) + donePulses k t
    | _ => 0

end Sys2Proof.Machine
end

