-- ==== Sys2Proof/Certificates/Slice0/Obligations.lean ====
section
/-! DEFINITION. The statements for the provers. Each names the rule of spec/ it formalises. Statements about a
next state hold in every state that meets their hypotheses; `GoodState` (Safety.lean) rules out the states no run
reaches, and is itself stated to hold at reset and to be kept by every step. -/

open Sys2Proof Sys2Proof.Machine

/-! ## Encoding -/

/-- R106, R108, R116: a word decodes to a command exactly when it is that command's word: decoding undoes encoding
for every operand, and no bit of a word that decodes is dropped. -/
def Obligations.DecodeAndEncodeAgree : Prop := ∀ (w : CommandWord) (i : Instr), decode w = .ok i ↔ w = encode i

/-- R109 and R116: the decoder refuses exactly the words R109 calls illegal. -/
def Obligations.DecodeRefusesExactlyIllegalWords : Prop :=
  ∀ w : CommandWord, (∃ e, decode w = .error e) ↔
    (w.extractLsb' 12 4 = 0x0#4 ∨ 0xB#4 ≤ w.extractLsb' 12 4 ∨ w.extractLsb' 8 4 ≠ 0#4 ∨
      (w.extractLsb' 0 8 ≠ 0#8 ∧ w.extractLsb' 12 4 ≠ 0x1#4 ∧ w.extractLsb' 12 4 ≠ 0x3#4))

/-- R108: words of the opcode map decode to the operation of their row. -/
def Obligations.SampleWordsDecode : Prop :=
  decode 0x10C8#16 = .ok (.feed 0xC8#8) ∧ decode 0x3007#16 = .ok (.rdtx 0x07#8) ∧
  decode 0x2000#16 = .ok .next ∧ decode 0x4000#16 = .ok .takeBoot ∧ decode 0x5000#16 = .ok .takeBind ∧
  decode 0x6000#16 = .ok .takeMm ∧ decode 0x7000#16 = .ok .takePing ∧ decode 0x8000#16 = .ok .cntUpd ∧
  decode 0x9000#16 = .ok .cntRx ∧ decode 0xA000#16 = .ok .linkrst

/-! ## The step, the port and reset -/

/-- R5, R116: a word on the port that decodes to a command is taken off the port and the command is run. -/
def Obligations.StepRunsTheDecodedCommand : Prop :=
  ∀ (s : State) (w : CommandWord) (rest : List Input) (i : Instr), s.cfg.wf = true →
    s.inputs = .command w :: rest → decode w = .ok i → step s = exec i { s with inputs := rest }

/-- R266: an illegal word is answered with `E_ILLEGAL`, and nothing else changes. -/
def Obligations.IllegalWordChangesNothing : Prop :=
  ∀ (s : State) (w : CommandWord) (rest : List Input), s.cfg.wf = true → s.inputs = .command w :: rest →
    w.illegal = true →
    step s = .next { s with inputs := rest, rsp := some ⟨0x6#4, false, false, 0x00#8, 0#32⟩ }

/-- R340: full reset sets every state element to its full-reset value and emits no response and no MSP event.
That the environment's inputs still to come and events already taken stay is the model's choice (log 4). -/
def Obligations.FullResetSetsEveryElement : Prop :=
  ∀ (s : State) (rest : List Input), s.cfg.wf = true → s.inputs = .fullReset :: rest →
    ∃ t, step s = .next t ∧ t.cfg = s.cfg ∧ t.fsm = .idle ∧ t.cnt = 0#8 ∧ (∀ i, t.wbuf.read i = 0x00#8) ∧
      t.rxCount = 0 ∧ t.updated = List.replicate s.cfg.n false ∧ t.locked = List.replicate s.cfg.n false ∧
      (∀ a, t.arena.read a = 0x00#8) ∧ t.cursor = 0#6 ∧ t.txValid = false ∧ t.txSlot = 0#6 ∧ t.txLen = 0#9 ∧
      t.latchBoot = false ∧ t.latchBind = false ∧ t.latchMm = false ∧ t.latchPing = false ∧ t.mmId = 0x00#8 ∧
      t.rsp = none ∧ t.mspLog = s.mspLog ∧ t.inputs = rest

/-- The model's choice (log 2): with nothing presented the block waits and gives no response; and (R7, log 8)
from a configuration that breaks R7 no step is taken. -/
def Obligations.StepWithoutInputWaits : Prop :=
  ∀ s : State, (s.cfg.wf = true → s.inputs = [] → step s = .next { s with rsp := none }) ∧
    (s.cfg.wf = false → step s = .refused .illFormedConfig)

/-- R7: a configuration whose parameters lie in the ranges of R6 is built exactly when (a) to (g) hold, and
refused otherwise. -/
def Obligations.BuildAcceptsExactlyWellFormed : Prop :=
  ∀ c : Cfg, (8 ≤ c.cntW ∧ c.cntW ≤ 64) →
    (∀ j ∈ [c.offSub0, c.offSub1, c.offMmid, c.offOrigin, c.offPingTarget, c.offVsub], j ≤ 255) →
    let ok := (2 ≤ c.n ∧ c.n ≤ 64) ∧ c.std.length = c.n - 2 ∧
      (∀ d ∈ c.std, 1 ≤ d.cap ∧ d.cap ≤ c.maxLen + 1) ∧ c.maxLen + 1 ≤ c.resCap ∧
      ((c.std.map StdSlot.cap).sum + 2 * c.resCap ≤ c.arenaSize ∧ c.arenaSize ≤ 4096) ∧
      (∀ j ∈ [c.offSub0, c.offSub1, c.offMmid, c.offOrigin, c.offPingTarget, c.offVsub], 3 ≤ j) ∧
      (2 ≤ c.maxLen ∧ c.maxLen ≤ 256)
    (ok → State.build c = .next (State.resetWith c)) ∧ (¬ ok → State.build c = .refused .illFormedConfig)

/-- R71: the bases are cumulative offsets in declaration order, the slots are disjoint and inside the arena. -/
def Obligations.SlotsPartitionTheArena : Prop :=
  (∀ c : Cfg, c.wf = true → c.base 0 = 0 ∧
    (∀ k, k + 1 < c.n → c.base (k + 1) = c.base k + c.cap k) ∧
    (∀ k j, k < j → j < c.n → c.base k + c.cap k ≤ c.base j) ∧
    (∀ k, k < c.n → c.base k + c.cap k ≤ c.arenaSize)) ∧
  (List.range 5).map Cfg.reference.base = [0, 19, 31, 47, 112]

/-! ## Invariants -/

/-- R30, R340, R343: the state after full reset of a well-formed configuration meets the invariant. -/
def Obligations.ResetStateIsGood : Prop :=
  (∀ c : Cfg, c.wf = true → GoodState (State.resetWith c)) ∧ GoodState State.reset

/-- Every step keeps the invariant, from every state that meets it (R30, R38, R151, R225, I27). -/
def Obligations.EveryStepKeepsGoodState : Prop := ∀ s t : State, GoodState s → step s = .next t → GoodState t

/-- R300, R312: from a state that meets the invariant every step, and every command, completes: no fault and no
refusal. -/
def Obligations.EveryCommandCompletes : Prop :=
  ∀ s : State, GoodState s → (∃ t, step s = .next t) ∧ ∀ i : Instr, ∃ t, exec i s = .next t

/-- Whatever is presented to a block built from a well-formed configuration, in any order and number (R76), it
never stops, and the invariant holds throughout. That a reset falls between commands (log 13) and that a step past
the list waits (log 2) are the model's choices. -/
def Obligations.NoInputSequenceStopsTheBlock : Prop :=
  ∀ (c : Cfg) (inputs : List Input) (k : Nat), c.wf = true →
    ∃ t, core.run k { State.resetWith c with inputs := inputs } = .next t ∧ GoodState t

/-- R48: no step writes the configuration, from any state. -/
def Obligations.ConfigurationIsConstant : Prop := ∀ s t : State, step s = .next t → t.cfg = s.cfg

/-- R38: a locked slot is updated: at reset, and after every step from a state in which it holds. -/
def Obligations.LockedImpliesUpdated : Prop :=
  (∀ c k, (State.resetWith c).lockedAt k = true → (State.resetWith c).updatedAt k = true) ∧
  ∀ s t : State, (∀ k, s.lockedAt k = true → s.updatedAt k = true) → step s = .next t →
    ∀ k, t.lockedAt k = true → t.updatedAt k = true

/-- R151: the framer's invariants: at reset, and after every step from a state in which they hold and the working
buffer is canonical, which it then stays. -/
def Obligations.FramerInvariantKept : Prop :=
  (∀ c, (State.resetWith c).wbuf.wf = true ∧ FramerOk (State.resetWith c)) ∧
  ∀ s t : State, s.wbuf.wf = true → FramerOk s → step s = .next t → t.wbuf.wf = true ∧ FramerOk t

/-- Canonical stores that read the same are the same data. -/
def Obligations.CanonicalStoresAreExtensional : Prop :=
  ∀ m m' : Memory, m.wf = true → m'.wf = true → (∀ a, m.read a = m'.read a) → m = m'

/-- R150: since full reset, the number of steps with the frame-done pulse is `rx_count` modulo `2^P_CNT_W`. A
step past the list of words waits, with no pulse: the model's choice (log 2). -/
def Obligations.FrameDonePulsesAreCounted : Prop :=
  ∀ (c : Cfg) (ws : List CommandWord) (k : Nat), c.wf = true →
    ∃ t, core.run k { State.resetWith c with inputs := ws.map .command } = .next t ∧
      t.rxCount = donePulses k { State.resetWith c with inputs := ws.map .command } % 2 ^ c.cntW

/-! ## The RX Framer -/

/-- R141: FEED in IDLE. -/
def Obligations.FeedInIdle : Prop :=
  ∀ (s : State) (b : Byte), s.fsm = .idle →
    ((b = s.cfg.syncRx ∨ b = s.cfg.syncGen) →
      exec (.feed b) s = .next { s with
        wbuf := s.wbuf.write 0 b, fsm := .rxLen, rsp := some ⟨0x0#4, true, false, 0x00#8, 0#32⟩ }) ∧
    (¬ (b = s.cfg.syncRx ∨ b = s.cfg.syncGen) →
      exec (.feed b) s = .next { s with rsp := some ⟨0x1#4, false, false, 0x00#8, 0#32⟩ })

/-- R142: FEED in RX_LEN. -/
def Obligations.FeedInRxLen : Prop :=
  ∀ (s : State) (b : Byte), s.fsm = .rxLen →
    ((s.cfg.maxLen ≤ b.toNat ∨ b = 0#8) →
      exec (.feed b) s = .next { s with fsm := .idle, rsp := some ⟨0x2#4, false, false, 0x00#8, 0#32⟩ }) ∧
    ((1 ≤ b.toNat ∧ b.toNat < s.cfg.maxLen) →
      exec (.feed b) s = .next { s with
        wbuf := s.wbuf.write 1 b, cnt := 0#8, fsm := .rxData,
        rsp := some ⟨0x0#4, true, false, 0x00#8, 0#32⟩ })

/-- R143, R148: FEED in RX_DATA of a byte that does not complete the frame: appended after the two header bytes,
counted, and nothing else. -/
def Obligations.FeedAppendsDataByte : Prop :=
  ∀ (s : State) (b : Byte), GoodState s → s.fsm = .rxData → s.cnt.toNat + 1 < (s.wbuf.read 1).toNat →
    ∃ t, exec (.feed b) s = .next t ∧ t.cnt.toNat = s.cnt.toNat + 1 ∧
      (∀ i, t.wbuf.read i = if i = 2 + s.cnt.toNat then b else s.wbuf.read i) ∧
      t = { s with wbuf := t.wbuf, cnt := t.cnt, rsp := some ⟨0x0#4, true, false, 0x00#8, 0#32⟩ }

/-- R144, R147: the byte that completes a frame whose CRC differs: the frame is discarded, with no
classification, no MSP event and no count. -/
def Obligations.CrcMismatchDiscards : Prop :=
  ∀ (s : State) (b : Byte), GoodState s → s.fsm = .rxData → s.cnt.toNat + 1 = (s.wbuf.read 1).toNat →
    b ≠ s.cfg.crc8 ((completedFrame b s).bytes.drop 2) ((s.wbuf.read 1).toNat - 1) →
    ∃ t, exec (.feed b) s = .next t ∧ t.cnt = s.cnt + 1#8 ∧
      (∀ i, t.wbuf.read i = if i = 2 + s.cnt.toNat then b else s.wbuf.read i) ∧
      t = { s with
        wbuf := t.wbuf, cnt := t.cnt, fsm := .idle, rsp := some ⟨0x3#4, false, false, 0x00#8, 0#32⟩ }

/-- R146, R302: the byte that completes a frame whose CRC matches: `OK`, frame-done, one more frame counted,
whatever the classifier decides. -/
def Obligations.CrcMatchIsReceived : Prop :=
  ∀ (s : State) (b : Byte), GoodState s → completesValid b s →
    ∃ t route, exec (.feed b) s = .next t ∧ Received b s t route

/-- The frame handed to the classifier is the sync byte, the length byte, the data bytes before this one, and this
byte, `L + 2` bytes in all (R100, R144, R170). -/
def Obligations.CompletedFrameIsTheBytesFed : Prop :=
  ∀ (s : State) (b : Byte), GoodState s → completes b s →
    (completedFrame b s).len = (s.wbuf.read 1).toNat ∧
    (completedFrame b s).bytes.length = (s.wbuf.read 1).toNat + 2 ∧
    s.cnt.toNat + 1 = (s.wbuf.read 1).toNat ∧
    (completedFrame b s).bytes = (List.range ((s.wbuf.read 1).toNat + 1)).map s.wbuf.read ++ [b]

/-- R150, R152: a command raises the frame-done signal exactly when it is the FEED of a byte that completes a
frame and equals its CRC; `rx_count` moves exactly then; every command gives a response. -/
def Obligations.FrameDoneExactlyOnValidFrame : Prop :=
  ∀ (i : Instr) (s t : State), exec i s = .next t →
    ∃ r, t.rsp = some r ∧ (r.done = true ↔ ∃ b, i = .feed b ∧ completesValid b s) ∧
      t.rxCount = if r.done then (s.rxCount + 1) % 2 ^ s.cfg.cntW else s.rxCount

/-- R112, R113, I30: only the listed status and route codes are produced, and a route code other than `RT_NONE`
only with the frame-done signal. -/
def Obligations.OnlyListedCodesAreProduced : Prop :=
  ∀ (i : Instr) (s t : State), GoodState s → exec i s = .next t →
    ∃ r, t.rsp = some r ∧ r.status.toNat ≤ 6 ∧
      (r.route ∈ [0x00#8, 0x01#8, 0x02#8, 0x03#8, 0x04#8, 0x10#8, 0x11#8, 0x12#8, 0x13#8, 0x14#8] ∨
        ∃ k, k < s.cfg.n ∧ r.route.toNat = 0x40 + k) ∧
      (r.route ≠ 0x00#8 → r.done = true)

/-- R304: what an error leaves. -/
def Obligations.StateAfterAnError : Prop :=
  ∀ (i : Instr) (s t : State) (r : Response), exec i s = .next t → t.rsp = some r →
    (r.status = 0x1#4 → t = { s with rsp := t.rsp }) ∧
    (r.status = 0x2#4 → t = { s with fsm := .idle, rsp := t.rsp }) ∧
    (r.status = 0x3#4 → t = { s with wbuf := t.wbuf, cnt := t.cnt, fsm := .idle, rsp := t.rsp }) ∧
    (r.status = 0x5#4 → t = { s with rsp := t.rsp })

/-- R100, R115(a): the bytes of a well-formed frame fed from IDLE complete exactly one CRC-valid frame, on the last
byte, and that frame is the bytes fed. (A frame with `L = 1` is none of R115's; see `FrameWithoutTypeIsDropped`.) -/
def Obligations.WellFormedFrameIsDelivered : Prop :=
  ∀ (s : State) (sync ty : Byte) (payload : List Byte), GoodState s → s.fsm = .idle → s.cfg.isSync sync = true →
    payload.length + 2 < s.cfg.maxLen →
    ∃ front b u t r, asmFrame s.cfg sync ty payload = front ++ [.feed b] ∧ runCommands front s = .next u ∧
      u.rxCount = s.rxCount ∧ completesValid b u ∧
      (completedFrame b u).bytes.map Instr.feed = asmFrame s.cfg sync ty payload ∧
      exec (.feed b) u = .next t ∧ t.fsm = .idle ∧ t.rsp = some r ∧ r.done = true

/-! ## The Classifier/Router -/

/-- R172: a CRC-valid frame with no type byte is dropped with `D_SHORT`; no MSP event. -/
def Obligations.FrameWithoutTypeIsDropped : Prop :=
  ∀ (s : State) (b : Byte), GoodState s → completesValid b s → (completedFrame b s).len < 2 →
    ∃ t, exec (.feed b) s = .next t ∧ DroppedWith b s t 0x10#8 ∧ t.mspLog = s.mspLog

/-- R173: rule 1, bootloader. -/
def Obligations.BootloaderFrameSetsItsLatch : Prop :=
  ∀ (s : State) (b : Byte), GoodState s → completesValid b s →
    (completedFrame b s).field 2 = some s.cfg.tCommand →
    (completedFrame b s).field s.cfg.offSub0 = some 0x62#8 →
    (completedFrame b s).field s.cfg.offSub1 = some 0x6C#8 →
    ∃ t, exec (.feed b) s = .next t ∧ Received b s t 0x01#8 ∧ SlotsKept s t ∧ t.latchBoot = true ∧
      LatchesKept { s with latchBoot := true } t

/-- R174: rule 2, enter bind. -/
def Obligations.EnterBindFrameSetsItsLatch : Prop :=
  ∀ (s : State) (b : Byte), GoodState s → completesValid b s →
    (completedFrame b s).field 2 = some s.cfg.tCommand →
    (completedFrame b s).field s.cfg.offSub0 = some 0x62#8 →
    (completedFrame b s).field s.cfg.offSub1 = some 0x64#8 →
    ∃ t, exec (.feed b) s = .next t ∧ Received b s t 0x02#8 ∧ SlotsKept s t ∧ t.latchBind = true ∧
      LatchesKept { s with latchBind := true } t

/-- R175: rule 3, model match, with its id byte; and without it the frame is no control frame (here for a COMMAND
code that is not also the DEVICE_PING code) and sets no latch. -/
def Obligations.ModelMatchFrameCapturesItsId : Prop :=
  ∀ (s : State) (b : Byte), GoodState s → completesValid b s →
    (completedFrame b s).field 2 = some s.cfg.tCommand →
    (completedFrame b s).field s.cfg.offSub0 = some 0x6D#8 →
    (completedFrame b s).field s.cfg.offSub1 = some 0x6D#8 →
    (∀ id, (completedFrame b s).field s.cfg.offMmid = some id →
      ∃ t, exec (.feed b) s = .next t ∧ Received b s t 0x03#8 ∧ SlotsKept s t ∧ t.latchMm = true ∧
        t.mmId = id ∧ LatchesKept { s with latchMm := true, mmId := id } t) ∧
    ((completedFrame b s).field s.cfg.offMmid = none → s.cfg.tCommand ≠ s.cfg.tDevicePing →
      ∃ t, exec (.feed b) s = .next t ∧ LatchesKept s t)

/-- R176: rule 4, device ping for the receiver's own address. -/
def Obligations.DevicePingSetsItsLatch : Prop :=
  ∀ (s : State) (b : Byte), GoodState s → completesValid b s →
    (completedFrame b s).field 2 = some s.cfg.tDevicePing →
    (completedFrame b s).field s.cfg.offPingTarget = some s.cfg.syncRx →
    NoCommandRule s.cfg (completedFrame b s) s.cfg.tDevicePing →
    ∃ t, exec (.feed b) s = .next t ∧ Received b s t 0x04#8 ∧ SlotsKept s t ∧ t.latchPing = true ∧
      LatchesKept { s with latchPing := true } t

/-- R179, R180, R184: rule 6 for a vendor response: status text to the last slot, any other sub-type to the second
to last, whatever their flags; dropped where the sub-type is absent. -/
def Obligations.VendorResponseRouting : Prop :=
  ∀ (s : State) (b : Byte), GoodState s → completesValid b s →
    (completedFrame b s).field 2 = some s.cfg.tVendorResp → s.cfg.tExtFirst ≤ s.cfg.tVendorResp →
    NoControlRule s.cfg (completedFrame b s) s.cfg.tVendorResp →
    ((completedFrame b s).field s.cfg.offVsub = some s.cfg.stStatusText →
      ∃ t, exec (.feed b) s = .next t ∧ StoredIn b s t (s.cfg.n - 1)) ∧
    (∀ sub, (completedFrame b s).field s.cfg.offVsub = some sub → sub ≠ s.cfg.stStatusText →
      ∃ t, exec (.feed b) s = .next t ∧ StoredIn b s t (s.cfg.n - 2)) ∧
    ((completedFrame b s).len < s.cfg.offVsub →
      ∃ t, exec (.feed b) s = .next t ∧ DroppedWith b s t 0x10#8)

/-- R181, R183, R184: rule 6 by origin, for an extended type that is neither the vendor response nor, from the
flight controller, MSP: the two reserved slots, whatever their flags; dropped where the origin is absent. -/
def Obligations.OriginAddressRouting : Prop :=
  ∀ (s : State) (b ty : Byte), GoodState s → completesValid b s → (completedFrame b s).field 2 = some ty →
    s.cfg.tExtFirst ≤ ty → ty ≠ s.cfg.tVendorResp → NoControlRule s.cfg (completedFrame b s) ty →
    ((completedFrame b s).field s.cfg.offOrigin = some s.cfg.addrFc → ty ≠ s.cfg.tMspReq →
      ty ≠ s.cfg.tMspResp → ∃ t, exec (.feed b) s = .next t ∧ StoredIn b s t (s.cfg.n - 2)) ∧
    (∀ origin, (completedFrame b s).field s.cfg.offOrigin = some origin → origin ≠ s.cfg.addrFc →
      ∃ t, exec (.feed b) s = .next t ∧ StoredIn b s t (s.cfg.n - 1)) ∧
    ((completedFrame b s).len < s.cfg.offOrigin →
      ∃ t, exec (.feed b) s = .next t ∧ DroppedWith b s t 0x10#8)

/-- R182: the MSP collision rule. -/
def Obligations.MspCollisionRouting : Prop :=
  ∀ (s : State) (b ty : Byte), GoodState s → completesValid b s → (completedFrame b s).field 2 = some ty →
    s.cfg.tExtFirst ≤ ty → ty ≠ s.cfg.tVendorResp → NoControlRule s.cfg (completedFrame b s) ty →
    (ty = s.cfg.tMspReq ∨ ty = s.cfg.tMspResp) →
    (completedFrame b s).field s.cfg.offOrigin = some s.cfg.addrFc →
    (s.updatedAt (s.cfg.n - 2) = false →
      ∃ t, exec (.feed b) s = .next t ∧ StoredIn b s t (s.cfg.n - 2)) ∧
    (s.updatedAt (s.cfg.n - 2) = true → s.updatedAt (s.cfg.n - 1) = false →
      ∃ t, exec (.feed b) s = .next t ∧ StoredIn b s t (s.cfg.n - 1)) ∧
    (s.updatedAt (s.cfg.n - 2) = true → s.updatedAt (s.cfg.n - 1) = true →
      ∃ t, exec (.feed b) s = .next t ∧ DroppedWith b s t 0x14#8)

/-- R185 to R189: rule 7: the first standard slot whose filter is the type decides, locked before size. -/
def Obligations.StandardSlotRouting : Prop :=
  ∀ (s : State) (b ty : Byte), GoodState s → completesValid b s → (completedFrame b s).field 2 = some ty →
    ty < s.cfg.tExtFirst → NoControlRule s.cfg (completedFrame b s) ty →
    (∀ k d, s.cfg.std[k]? = some d → d.filter = ty →
      (∀ j e, j < k → s.cfg.std[j]? = some e → e.filter ≠ ty) →
      (s.lockedAt k = true → ∃ t, exec (.feed b) s = .next t ∧ DroppedWith b s t 0x12#8) ∧
      (s.lockedAt k = false → d.cap < (completedFrame b s).size →
        ∃ t, exec (.feed b) s = .next t ∧ DroppedWith b s t 0x13#8) ∧
      (s.lockedAt k = false → (completedFrame b s).size ≤ d.cap →
        ∃ t, exec (.feed b) s = .next t ∧ StoredIn b s t k)) ∧
    ((∀ d ∈ s.cfg.std, d.filter ≠ ty) →
      ∃ t, exec (.feed b) s = .next t ∧ DroppedWith b s t 0x11#8)

/-- R177, R82: a CRC-valid frame that no rule 1 to 4 matches adds its bytes to the MSP feed exactly when its type is
an MSP type, even when it is dropped; a CRC-valid frame that a rule 1 to 4 matches, or that has no type byte, adds
nothing (R171, R172); and no other command adds anything. -/
def Obligations.MspFramesAreForwarded : Prop :=
  (∀ (s t : State) (b ty : Byte), completesValid b s → (completedFrame b s).field 2 = some ty →
    NoControlRule s.cfg (completedFrame b s) ty → exec (.feed b) s = .next t →
    t.mspLog = if ty = s.cfg.tMspReq ∨ ty = s.cfg.tMspResp then s.mspLog ++ [(completedFrame b s).bytes]
      else s.mspLog) ∧
  (∀ (s t : State) (b : Byte), completesValid b s →
    (∀ ty, (completedFrame b s).field 2 = some ty → ¬ NoControlRule s.cfg (completedFrame b s) ty) →
    exec (.feed b) s = .next t → t.mspLog = s.mspLog) ∧
  (∀ (i : Instr) (s t : State), exec i s = .next t → (∀ b, i = .feed b → ¬ completesValid b s) →
    t.mspLog = s.mspLog)

/-- R170: a FEED writes at most one slot, and that by SlotWrite of the frame it completes. -/
def Obligations.FeedWritesAtMostOneSlot : Prop :=
  ∀ (s t : State) (b : Byte), GoodState s → exec (.feed b) s = .next t →
    ((∀ a, t.arena.read a = s.arena.read a) ∧ t.updated = s.updated) ∨
      ∃ k, k < s.cfg.n ∧ completesValid b s ∧ (completedFrame b s).size ≤ s.cfg.cap k ∧ StoredIn b s t k

/-- R37, R186, R344: while a standard slot is locked, no FEED changes a byte of it or its flags. -/
def Obligations.LockedStandardSlotIsProtected : Prop :=
  ∀ (s t : State) (b : Byte) (k : Nat), GoodState s → k < s.cfg.n - 2 → s.lockedAt k = true →
    exec (.feed b) s = .next t →
    (∀ i, i < s.cfg.cap k → t.slotByte k i = s.slotByte k i) ∧ t.updatedAt k = true ∧ t.lockedAt k = true

/-! ## The Outbound Scheduler and the counters -/

/-- R221 to R224, R226: NEXT_PAYLOAD releases the slot under the cursor if it is locked, selects the first ready slot
of the lap, locks it and presents its trimmed frame; nothing else changes. -/
def Obligations.NextPresentsTheFirstReadySlot : Prop :=
  ∀ (s : State) (j k m : Nat), GoodState s → FirstReady s j k → TrimmedTo s k m →
    ∃ t, exec .next s = .next t ∧ 0 < m ∧ t.cursor.toNat = k ∧ t.txValid = true ∧ t.txSlot.toNat = k ∧
      t.txLen.toNat = m ∧ t.rsp = some ⟨0x0#4, true, false, 0x00#8, BitVec.ofNat 32 (256 * k + m % 256)⟩ ∧
      FlagsAfterNext s t (some k) ∧ ReceiveSideKept s t

/-- R227: NEXT_PAYLOAD with nothing ready reports `EMPTY`, keeps the cursor, ends the view, and still releases. -/
def Obligations.NextReportsEmpty : Prop :=
  ∀ s : State, GoodState s → (∀ k, k < s.cfg.n → ¬ Ready s k) →
    ∃ t, exec .next s = .next t ∧ t.cursor = s.cursor ∧ t.txValid = false ∧ t.txSlot = s.txSlot ∧
      t.txLen = s.txLen ∧ t.rsp = some ⟨0x4#4, false, false, 0x00#8, 0#32⟩ ∧
      FlagsAfterNext s t none ∧ ReceiveSideKept s t

/-- R225: the trimmed-to-zero branch as written, in states no run reaches: the selected slot stays locked and
updated, the cursor is where it started, `EMPTY` is reported, and but for the release nothing else changes. -/
def Obligations.TrimmedToZeroReportsEmpty : Prop :=
  ∀ (s : State) (j k : Nat), RangesOk s → FirstReady s j k → s.slotByte k 0 = 0x00#8 →
    s.slotByte k 1 = 0x00#8 →
    ∃ t, exec .next s = .next t ∧ t.cursor = s.cursor ∧ t.txValid = false ∧
      t.txSlot = s.txSlot ∧ t.txLen = s.txLen ∧
      t.rsp = some ⟨0x4#4, false, false, 0x00#8, 0#32⟩ ∧ t.lockedAt k = true ∧ t.updatedAt k = true ∧
      FlagsAfterNext s t (some k) ∧ ReceiveSideKept s t

/-- R228: while no frame is written, successive NEXT_PAYLOAD calls present each ready slot exactly once, in the order
of the lap, and then report `EMPTY` with no slot updated. -/
def Obligations.SweepPresentsEachReadySlotOnce : Prop :=
  ∀ (s : State) (order : List Nat), GoodState s →
    order = ((List.range s.cfg.n).map fun j => (s.cursor.toNat + 1 + j) % s.cfg.n).filter
      (fun k => s.updatedAt k && !(k == s.cursor.toNat && s.lockedAt k)) →
    (∀ j k, order[j]? = some k →
      ∃ t, runCommands (List.replicate (j + 1) .next) s = .next t ∧ t.txValid = true ∧ t.txSlot.toNat = k) ∧
    ∃ t, runCommands (List.replicate (order.length + 1) .next) s = .next t ∧ t.txValid = false ∧
      t.rsp = some ⟨0x4#4, false, false, 0x00#8, 0#32⟩ ∧ ∀ k, t.updatedAt k = false

/-- R230: READ_TX in every case: outside the view, the substituted length byte, the live arena byte. No state
changes. -/
def Obligations.ReadTxEveryCase : Prop :=
  ∀ (s : State) (i : Byte), GoodState s →
    ((s.txValid = false ∨ s.txLen.toNat ≤ i.toNat) →
      exec (.rdtx i) s = .next { s with rsp := some ⟨0x5#4, false, false, 0x00#8, 0#32⟩ }) ∧
    (s.txValid = true → i.toNat < s.txLen.toNat → i = 1#8 →
      exec (.rdtx i) s = .next { s with
        rsp := some ⟨0x0#4, true, false, 0x00#8, BitVec.ofNat 32 ((s.txLen.toNat - 2) % 256)⟩ }) ∧
    (s.txValid = true → i.toNat < s.txLen.toNat → i ≠ 1#8 →
      exec (.rdtx i) s = .next { s with
        rsp := some ⟨0x0#4, true, false, 0x00#8,
          BitVec.ofNat 32 (s.arena.read (s.cfg.base s.txSlot.toNat + i.toNat)).toNat⟩ })

/-- R344, R81: after a FEED that reports the presented slot as the one it stored its frame in, READ_TX gives the new
frame's bytes, but for the length byte, which is still that of the view. -/
def Obligations.TornViewReadsTheNewFrame : Prop :=
  ∀ (s t : State) (b i : Byte) (r : Response), GoodState s → s.txValid = true → exec (.feed b) s = .next t →
    t.rsp = some r → r.route.toNat = 0x40 + s.txSlot.toNat → i.toNat < s.txLen.toNat →
    i.toNat < (completedFrame b s).size →
    exec (.rdtx i) t = .next { t with
      rsp := some ⟨0x0#4, true, false, 0x00#8,
        BitVec.ofNat 32 (if i = 1#8 then (s.txLen.toNat - 2) % 256
          else ((completedFrame b s).bytes.getD i.toNat 0#8).toNat)⟩ }

/-- R345: a frame written into the presented slot is released unsent by the next NEXT_PAYLOAD. -/
def Obligations.UpdateOfALockedSlotIsLost : Prop :=
  ∀ (s t u : State) (b : Byte) (k : Nat), GoodState s → s.lockedAt k = true → exec (.feed b) s = .next t →
    exec .next t = .next u → u.updatedAt k = false ∧ u.lockedAt k = false ∧
      (u.txValid = true → u.txSlot.toNat ≠ k)

/-- R233: UPDATED_COUNT. -/
def Obligations.UpdatedCountCountsSlots : Prop :=
  ∀ s : State, exec .cntUpd s = .next { s with
    rsp := some ⟨0x0#4, true, false, 0x00#8,
      BitVec.ofNat 32 ((Finset.range s.cfg.n).filter fun k => s.updatedAt k = true).card⟩ }

/-- R234: RECEIVED_COUNT, the low 32 bits of the counter. -/
def Obligations.ReceivedCountReadsTheCounter : Prop :=
  ∀ s : State, ∃ d : BitVec 32, d.toNat = s.rxCount % 2 ^ 32 ∧
    exec .cntRx s = .next { s with rsp := some ⟨0x0#4, true, false, 0x00#8, d⟩ }

/-! ## The latches and link reset -/

/-- R260: TAKE_BOOT reads and clears its latch. -/
def Obligations.TakeBootReadsAndClears : Prop :=
  ∀ s : State, exec .takeBoot s = .next { s with
    latchBoot := false,
    rsp := some ⟨0x0#4, s.latchBoot, false, 0x00#8, BitVec.ofNat 32 s.latchBoot.toNat⟩ }

/-- R261: TAKE_BIND reads and clears its latch. -/
def Obligations.TakeBindReadsAndClears : Prop :=
  ∀ s : State, exec .takeBind s = .next { s with
    latchBind := false,
    rsp := some ⟨0x0#4, s.latchBind, false, 0x00#8, BitVec.ofNat 32 s.latchBind.toNat⟩ }

/-- R262: TAKE_MM reads and clears its latch and gives the id beside a 1 in bit 8; `mm_id` is not changed. -/
def Obligations.TakeMmGivesTheId : Prop :=
  ∀ s : State,
    (s.latchMm = true → exec .takeMm s = .next { s with
      latchMm := false, rsp := some ⟨0x0#4, true, false, 0x00#8, BitVec.ofNat 32 (0x100 + s.mmId.toNat)⟩ }) ∧
    (s.latchMm = false → exec .takeMm s = .next { s with
      latchMm := false, rsp := some ⟨0x0#4, false, false, 0x00#8, 0#32⟩ })

/-- R263: TAKE_PING reads and clears its latch. -/
def Obligations.TakePingReadsAndClears : Prop :=
  ∀ s : State, exec .takePing s = .next { s with
    latchPing := false,
    rsp := some ⟨0x0#4, s.latchPing, false, 0x00#8, BitVec.ofNat 32 s.latchPing.toNat⟩ }

/-- R42, R264: a latch is set only by a FEED that completes a CRC-valid frame and cleared only by its own TAKE. -/
def Obligations.LatchesChangeOnlyByFrameAndTake : Prop :=
  ∀ (i : Instr) (s t : State), exec i s = .next t →
    (t.latchBoot ≠ s.latchBoot →
      (i = .takeBoot ∧ t.latchBoot = false) ∨ (t.latchBoot = true ∧ ∃ b, i = .feed b ∧ completesValid b s)) ∧
    (t.latchBind ≠ s.latchBind →
      (i = .takeBind ∧ t.latchBind = false) ∨ (t.latchBind = true ∧ ∃ b, i = .feed b ∧ completesValid b s)) ∧
    (t.latchMm ≠ s.latchMm →
      (i = .takeMm ∧ t.latchMm = false) ∨ (t.latchMm = true ∧ ∃ b, i = .feed b ∧ completesValid b s)) ∧
    (t.latchPing ≠ s.latchPing →
      (i = .takePing ∧ t.latchPing = false) ∨ (t.latchPing = true ∧ ∃ b, i = .feed b ∧ completesValid b s)) ∧
    (t.mmId ≠ s.mmId → t.latchMm = true ∧ ∃ b, i = .feed b ∧ completesValid b s)

/-- R265: LINK_RESET clears every slot flag and `tx_valid`, and nothing else. -/
def Obligations.LinkResetClearsFlagsAndView : Prop :=
  ∀ s : State, ∃ t, exec .linkrst s = .next t ∧ (∀ k, t.updatedAt k = false ∧ t.lockedAt k = false) ∧
    t.updated.length = s.cfg.n ∧ t.locked.length = s.cfg.n ∧
    t = { s with
      updated := t.updated, locked := t.locked, txValid := false,
      rsp := some ⟨0x0#4, true, false, 0x00#8, 0#32⟩ }

/-! ## Frames over all commands -/

/-- R36, R37: `updated` is set only by a FEED that completes a CRC-valid frame, `locked` only by NEXT_PAYLOAD, and
both are cleared only by NEXT_PAYLOAD and LINK_RESET. -/
def Obligations.SlotFlagsHaveTheirWriters : Prop :=
  ∀ (i : Instr) (s t : State) (k : Nat), exec i s = .next t →
    (s.updatedAt k = false → t.updatedAt k = true → ∃ b, i = .feed b ∧ completesValid b s) ∧
    (s.updatedAt k = true → t.updatedAt k = false → i = .next ∨ i = .linkrst) ∧
    (s.lockedAt k = false → t.lockedAt k = true → i = .next) ∧
    (s.lockedAt k = true → t.lockedAt k = false → i = .next ∨ i = .linkrst)

/-- R45: every command but FEED leaves the framer, the counter, both byte stores and the MSP feed as they are. -/
def Obligations.OnlyFeedChangesTheReceiveSide : Prop :=
  ∀ (i : Instr) (s t : State), exec i s = .next t → (∀ b, i ≠ .feed b) →
    t.fsm = s.fsm ∧ t.cnt = s.cnt ∧ (∀ j, t.wbuf.read j = s.wbuf.read j) ∧ t.rxCount = s.rxCount ∧
      (∀ a, t.arena.read a = s.arena.read a) ∧ t.mspLog = s.mspLog ∧ t.mmId = s.mmId ∧ t.cfg = s.cfg ∧
      t.inputs = s.inputs

/-- R45: FEED leaves the lock flags, the cursor and the view as they are, and changes slots, latches and counter only
with a CRC-valid frame. -/
def Obligations.FeedLeavesTheTransmitSide : Prop :=
  ∀ (b : Byte) (s t : State), exec (.feed b) s = .next t →
    t.locked = s.locked ∧ t.cursor = s.cursor ∧ t.txValid = s.txValid ∧ t.txSlot = s.txSlot ∧
      t.txLen = s.txLen ∧ t.cfg = s.cfg ∧ t.inputs = s.inputs ∧
      (¬ completesValid b s → SlotsKept s t ∧ LatchesKept s t ∧ t.rxCount = s.rxCount)
end

