-- ==== Sys2Proof/Laws/Config.lean ====
section
/-! SUPPORT. What the checks of R7 give, as arithmetic facts. -/

namespace Sys2Proof

/-- The facts a well-formed configuration has. -/
structure Cfg.Bounds (c : Cfg) : Prop where
  slotCount : 2 ≤ c.n ∧ c.n ≤ 64
  stdCount : c.std.length + 2 = c.n
  stdCaps : ∀ d ∈ c.std, 1 ≤ d.cap ∧ d.cap ≤ c.maxLen + 1
  resCap : c.maxLen + 1 ≤ c.resCap
  arena : c.caps.sum ≤ c.arenaSize ∧ c.arenaSize ≤ 4096
  offsets : ∀ j ∈ [c.offSub0, c.offSub1, c.offMmid, c.offOrigin, c.offPingTarget, c.offVsub], 3 ≤ j ∧ j ≤ 255
  maxLen : 2 ≤ c.maxLen ∧ c.maxLen ≤ 256
  cntW : 8 ≤ c.cntW ∧ c.cntW ≤ 64

theorem Cfg.wf_iff_bounds (c : Cfg) : c.wf = true ↔ c.Bounds := by
  constructor
  · intro h
    simp only [Cfg.wf, Cfg.slotCountOk, Cfg.stdCountOk, Cfg.stdCapsOk, Cfg.resCapOk, Cfg.arenaOk, Cfg.offsetsOk,
      Cfg.maxLenOk, Cfg.cntWOk, Bool.and_eq_true, decide_eq_true_eq, beq_iff_eq, List.all_eq_true] at h
    obtain ⟨⟨⟨⟨⟨⟨⟨h1, h2⟩, h3⟩, h4⟩, h5⟩, h6⟩, h7⟩, h8⟩ := h
    exact ⟨h1, h2, h3, h4, h5, h6, h7, h8⟩
  · intro ⟨h1, h2, h3, h4, h5, h6, h7, h8⟩
    simp only [Cfg.wf, Cfg.slotCountOk, Cfg.stdCountOk, Cfg.stdCapsOk, Cfg.resCapOk, Cfg.arenaOk, Cfg.offsetsOk,
      Cfg.maxLenOk, Cfg.cntWOk, Bool.and_eq_true, decide_eq_true_eq, beq_iff_eq, List.all_eq_true]
    exact ⟨⟨⟨⟨⟨⟨⟨h1, h2⟩, h3⟩, h4⟩, h5⟩, h6⟩, h7⟩, h8⟩

theorem Cfg.Bounds.of_wf {c : Cfg} (h : c.wf = true) : c.Bounds := (Cfg.wf_iff_bounds c).mp h

/-- There is a capacity for each slot. -/
theorem Cfg.length_caps {c : Cfg} (h : c.Bounds) : c.caps.length = c.n := by
  have := h.stdCount
  simp [Cfg.caps]
  omega

/-- The sum of the first capacities and the next one is at most the sum of all. -/
theorem sum_take_add_getD_le (l : List Nat) (k : Nat) (hk : k < l.length) :
    (l.take k).sum + l.getD k 0 ≤ l.sum := by
  induction l generalizing k with
  | nil => simp at hk
  | cons x xs ih =>
    cases k with
    | zero => simp
    | succ k =>
      have := ih k (by simpa using hk)
      simp only [List.take_succ_cons, List.sum_cons, List.getD_cons_succ]
      omega

/-- Every slot lies in the arena (R7(e), R71). -/
theorem Cfg.slot_in_arena {c : Cfg} (h : c.Bounds) {k : Nat} (hk : k < c.n) :
    c.base k + c.cap k ≤ c.arenaSize :=
  Nat.le_trans (sum_take_add_getD_le c.caps k (by rw [Cfg.length_caps h]; exact hk)) h.arena.1

/-- A standard slot has the capacity `P_STD` gives it. -/
theorem Cfg.cap_std (c : Cfg) {k : Nat} (hk : k < c.std.length) : c.cap k = c.std[k].cap := by
  simp [Cfg.cap, Cfg.caps, List.getD_eq_getElem?_getD, List.getElem?_append_left, hk]

/-- A reserved slot has the capacity `P_RES_CAP`. -/
theorem Cfg.cap_reserved {c : Cfg} (h : c.Bounds) {k : Nat} (h1 : c.res2 ≤ k) (h2 : k < c.n) :
    c.cap k = c.resCap := by
  have := h.stdCount
  have hk : k = c.std.length ∨ k = c.std.length + 1 := by unfold Cfg.res2 at h1; omega
  rcases hk with rfl | rfl
  · simp [Cfg.cap, Cfg.caps, List.getD_eq_getElem?_getD]
  · simp [Cfg.cap, Cfg.caps, List.getD_eq_getElem?_getD]

end Sys2Proof
end

