-- ==== Sys2Proof/Laws/State.lean ====
section
/-! SUPPORT. What each update of State leaves in each field, one lemma for each field and update, so that no
proof unfolds a record update. -/

namespace Sys2Proof.Machine

variable (s : State)

/-! ### respond -/

@[simp] theorem State.respond_cfg (st : Status) (ok done : Bool) (route : Route) (data : BitVec 32) :
    (s.respond st ok done route data).cfg = s.cfg := rfl
@[simp] theorem State.respond_fsm (st : Status) (ok done : Bool) (route : Route) (data : BitVec 32) :
    (s.respond st ok done route data).fsm = s.fsm := rfl
@[simp] theorem State.respond_cnt (st : Status) (ok done : Bool) (route : Route) (data : BitVec 32) :
    (s.respond st ok done route data).cnt = s.cnt := rfl
@[simp] theorem State.respond_wbuf (st : Status) (ok done : Bool) (route : Route) (data : BitVec 32) :
    (s.respond st ok done route data).wbuf = s.wbuf := rfl
@[simp] theorem State.respond_rxCount (st : Status) (ok done : Bool) (route : Route) (data : BitVec 32) :
    (s.respond st ok done route data).rxCount = s.rxCount := rfl
@[simp] theorem State.respond_updated (st : Status) (ok done : Bool) (route : Route) (data : BitVec 32) :
    (s.respond st ok done route data).updated = s.updated := rfl
@[simp] theorem State.respond_locked (st : Status) (ok done : Bool) (route : Route) (data : BitVec 32) :
    (s.respond st ok done route data).locked = s.locked := rfl
@[simp] theorem State.respond_arena (st : Status) (ok done : Bool) (route : Route) (data : BitVec 32) :
    (s.respond st ok done route data).arena = s.arena := rfl
@[simp] theorem State.respond_cursor (st : Status) (ok done : Bool) (route : Route) (data : BitVec 32) :
    (s.respond st ok done route data).cursor = s.cursor := rfl
@[simp] theorem State.respond_txValid (st : Status) (ok done : Bool) (route : Route) (data : BitVec 32) :
    (s.respond st ok done route data).txValid = s.txValid := rfl
@[simp] theorem State.respond_txSlot (st : Status) (ok done : Bool) (route : Route) (data : BitVec 32) :
    (s.respond st ok done route data).txSlot = s.txSlot := rfl
@[simp] theorem State.respond_txLen (st : Status) (ok done : Bool) (route : Route) (data : BitVec 32) :
    (s.respond st ok done route data).txLen = s.txLen := rfl
@[simp] theorem State.respond_latchBoot (st : Status) (ok done : Bool) (route : Route) (data : BitVec 32) :
    (s.respond st ok done route data).latchBoot = s.latchBoot := rfl
@[simp] theorem State.respond_latchBind (st : Status) (ok done : Bool) (route : Route) (data : BitVec 32) :
    (s.respond st ok done route data).latchBind = s.latchBind := rfl
@[simp] theorem State.respond_latchMm (st : Status) (ok done : Bool) (route : Route) (data : BitVec 32) :
    (s.respond st ok done route data).latchMm = s.latchMm := rfl
@[simp] theorem State.respond_latchPing (st : Status) (ok done : Bool) (route : Route) (data : BitVec 32) :
    (s.respond st ok done route data).latchPing = s.latchPing := rfl
@[simp] theorem State.respond_mmId (st : Status) (ok done : Bool) (route : Route) (data : BitVec 32) :
    (s.respond st ok done route data).mmId = s.mmId := rfl
@[simp] theorem State.respond_inputs (st : Status) (ok done : Bool) (route : Route) (data : BitVec 32) :
    (s.respond st ok done route data).inputs = s.inputs := rfl
@[simp] theorem State.respond_rsp (st : Status) (ok done : Bool) (route : Route) (data : BitVec 32) :
    (s.respond st ok done route data).rsp = some ⟨st.code, ok, done, route.code, data⟩ := rfl
@[simp] theorem State.respond_mspLog (st : Status) (ok done : Bool) (route : Route) (data : BitVec 32) :
    (s.respond st ok done route data).mspLog = s.mspLog := rfl

/-! ### respondOk -/

@[simp] theorem State.respondOk_cfg (data : BitVec 32) : (s.respondOk data).cfg = s.cfg := rfl
@[simp] theorem State.respondOk_fsm (data : BitVec 32) : (s.respondOk data).fsm = s.fsm := rfl
@[simp] theorem State.respondOk_cnt (data : BitVec 32) : (s.respondOk data).cnt = s.cnt := rfl
@[simp] theorem State.respondOk_wbuf (data : BitVec 32) : (s.respondOk data).wbuf = s.wbuf := rfl
@[simp] theorem State.respondOk_rxCount (data : BitVec 32) : (s.respondOk data).rxCount = s.rxCount := rfl
@[simp] theorem State.respondOk_updated (data : BitVec 32) : (s.respondOk data).updated = s.updated := rfl
@[simp] theorem State.respondOk_locked (data : BitVec 32) : (s.respondOk data).locked = s.locked := rfl
@[simp] theorem State.respondOk_arena (data : BitVec 32) : (s.respondOk data).arena = s.arena := rfl
@[simp] theorem State.respondOk_cursor (data : BitVec 32) : (s.respondOk data).cursor = s.cursor := rfl
@[simp] theorem State.respondOk_txValid (data : BitVec 32) : (s.respondOk data).txValid = s.txValid := rfl
@[simp] theorem State.respondOk_txSlot (data : BitVec 32) : (s.respondOk data).txSlot = s.txSlot := rfl
@[simp] theorem State.respondOk_txLen (data : BitVec 32) : (s.respondOk data).txLen = s.txLen := rfl
@[simp] theorem State.respondOk_latchBoot (data : BitVec 32) : (s.respondOk data).latchBoot = s.latchBoot := rfl
@[simp] theorem State.respondOk_latchBind (data : BitVec 32) : (s.respondOk data).latchBind = s.latchBind := rfl
@[simp] theorem State.respondOk_latchMm (data : BitVec 32) : (s.respondOk data).latchMm = s.latchMm := rfl
@[simp] theorem State.respondOk_latchPing (data : BitVec 32) : (s.respondOk data).latchPing = s.latchPing := rfl
@[simp] theorem State.respondOk_mmId (data : BitVec 32) : (s.respondOk data).mmId = s.mmId := rfl
@[simp] theorem State.respondOk_inputs (data : BitVec 32) : (s.respondOk data).inputs = s.inputs := rfl
@[simp] theorem State.respondOk_rsp (data : BitVec 32) :
    (s.respondOk data).rsp = some ⟨Status.ok.code, true, false, Route.none.code, data⟩ := rfl
@[simp] theorem State.respondOk_mspLog (data : BitVec 32) : (s.respondOk data).mspLog = s.mspLog := rfl

/-! ### reportError -/

@[simp] theorem State.reportError_cfg (e : Status) : (s.reportError e).cfg = s.cfg := rfl
@[simp] theorem State.reportError_fsm (e : Status) : (s.reportError e).fsm = s.fsm := rfl
@[simp] theorem State.reportError_cnt (e : Status) : (s.reportError e).cnt = s.cnt := rfl
@[simp] theorem State.reportError_wbuf (e : Status) : (s.reportError e).wbuf = s.wbuf := rfl
@[simp] theorem State.reportError_rxCount (e : Status) : (s.reportError e).rxCount = s.rxCount := rfl
@[simp] theorem State.reportError_updated (e : Status) : (s.reportError e).updated = s.updated := rfl
@[simp] theorem State.reportError_locked (e : Status) : (s.reportError e).locked = s.locked := rfl
@[simp] theorem State.reportError_arena (e : Status) : (s.reportError e).arena = s.arena := rfl
@[simp] theorem State.reportError_cursor (e : Status) : (s.reportError e).cursor = s.cursor := rfl
@[simp] theorem State.reportError_txValid (e : Status) : (s.reportError e).txValid = s.txValid := rfl
@[simp] theorem State.reportError_txSlot (e : Status) : (s.reportError e).txSlot = s.txSlot := rfl
@[simp] theorem State.reportError_txLen (e : Status) : (s.reportError e).txLen = s.txLen := rfl
@[simp] theorem State.reportError_latchBoot (e : Status) : (s.reportError e).latchBoot = s.latchBoot := rfl
@[simp] theorem State.reportError_latchBind (e : Status) : (s.reportError e).latchBind = s.latchBind := rfl
@[simp] theorem State.reportError_latchMm (e : Status) : (s.reportError e).latchMm = s.latchMm := rfl
@[simp] theorem State.reportError_latchPing (e : Status) : (s.reportError e).latchPing = s.latchPing := rfl
@[simp] theorem State.reportError_mmId (e : Status) : (s.reportError e).mmId = s.mmId := rfl
@[simp] theorem State.reportError_inputs (e : Status) : (s.reportError e).inputs = s.inputs := rfl
@[simp] theorem State.reportError_rsp (e : Status) :
    (s.reportError e).rsp = some ⟨e.code, false, false, Route.none.code, 0#32⟩ := rfl
@[simp] theorem State.reportError_mspLog (e : Status) : (s.reportError e).mspLog = s.mspLog := rfl

/-! ### respondLatch -/

@[simp] theorem State.respondLatch_cfg (v : Bool) : (s.respondLatch v).cfg = s.cfg := rfl
@[simp] theorem State.respondLatch_fsm (v : Bool) : (s.respondLatch v).fsm = s.fsm := rfl
@[simp] theorem State.respondLatch_cnt (v : Bool) : (s.respondLatch v).cnt = s.cnt := rfl
@[simp] theorem State.respondLatch_wbuf (v : Bool) : (s.respondLatch v).wbuf = s.wbuf := rfl
@[simp] theorem State.respondLatch_rxCount (v : Bool) : (s.respondLatch v).rxCount = s.rxCount := rfl
@[simp] theorem State.respondLatch_updated (v : Bool) : (s.respondLatch v).updated = s.updated := rfl
@[simp] theorem State.respondLatch_locked (v : Bool) : (s.respondLatch v).locked = s.locked := rfl
@[simp] theorem State.respondLatch_arena (v : Bool) : (s.respondLatch v).arena = s.arena := rfl
@[simp] theorem State.respondLatch_cursor (v : Bool) : (s.respondLatch v).cursor = s.cursor := rfl
@[simp] theorem State.respondLatch_txValid (v : Bool) : (s.respondLatch v).txValid = s.txValid := rfl
@[simp] theorem State.respondLatch_txSlot (v : Bool) : (s.respondLatch v).txSlot = s.txSlot := rfl
@[simp] theorem State.respondLatch_txLen (v : Bool) : (s.respondLatch v).txLen = s.txLen := rfl
@[simp] theorem State.respondLatch_latchBoot (v : Bool) : (s.respondLatch v).latchBoot = s.latchBoot := rfl
@[simp] theorem State.respondLatch_latchBind (v : Bool) : (s.respondLatch v).latchBind = s.latchBind := rfl
@[simp] theorem State.respondLatch_latchMm (v : Bool) : (s.respondLatch v).latchMm = s.latchMm := rfl
@[simp] theorem State.respondLatch_latchPing (v : Bool) : (s.respondLatch v).latchPing = s.latchPing := rfl
@[simp] theorem State.respondLatch_mmId (v : Bool) : (s.respondLatch v).mmId = s.mmId := rfl
@[simp] theorem State.respondLatch_inputs (v : Bool) : (s.respondLatch v).inputs = s.inputs := rfl
@[simp] theorem State.respondLatch_rsp (v : Bool) :
    (s.respondLatch v).rsp = some ⟨Status.ok.code, v, false, Route.none.code, zextBool v⟩ := rfl
@[simp] theorem State.respondLatch_mspLog (v : Bool) : (s.respondLatch v).mspLog = s.mspLog := rfl

/-! ### answerIllegal -/

@[simp] theorem State.answerIllegal_cfg : (s.answerIllegal).cfg = s.cfg := rfl
@[simp] theorem State.answerIllegal_fsm : (s.answerIllegal).fsm = s.fsm := rfl
@[simp] theorem State.answerIllegal_cnt : (s.answerIllegal).cnt = s.cnt := rfl
@[simp] theorem State.answerIllegal_wbuf : (s.answerIllegal).wbuf = s.wbuf := rfl
@[simp] theorem State.answerIllegal_rxCount : (s.answerIllegal).rxCount = s.rxCount := rfl
@[simp] theorem State.answerIllegal_updated : (s.answerIllegal).updated = s.updated := rfl
@[simp] theorem State.answerIllegal_locked : (s.answerIllegal).locked = s.locked := rfl
@[simp] theorem State.answerIllegal_arena : (s.answerIllegal).arena = s.arena := rfl
@[simp] theorem State.answerIllegal_cursor : (s.answerIllegal).cursor = s.cursor := rfl
@[simp] theorem State.answerIllegal_txValid : (s.answerIllegal).txValid = s.txValid := rfl
@[simp] theorem State.answerIllegal_txSlot : (s.answerIllegal).txSlot = s.txSlot := rfl
@[simp] theorem State.answerIllegal_txLen : (s.answerIllegal).txLen = s.txLen := rfl
@[simp] theorem State.answerIllegal_latchBoot : (s.answerIllegal).latchBoot = s.latchBoot := rfl
@[simp] theorem State.answerIllegal_latchBind : (s.answerIllegal).latchBind = s.latchBind := rfl
@[simp] theorem State.answerIllegal_latchMm : (s.answerIllegal).latchMm = s.latchMm := rfl
@[simp] theorem State.answerIllegal_latchPing : (s.answerIllegal).latchPing = s.latchPing := rfl
@[simp] theorem State.answerIllegal_mmId : (s.answerIllegal).mmId = s.mmId := rfl
@[simp] theorem State.answerIllegal_inputs : (s.answerIllegal).inputs = s.inputs := rfl
@[simp] theorem State.answerIllegal_rsp :
    (s.answerIllegal).rsp = some ⟨Status.eIllegal.code, false, false, Route.none.code, 0#32⟩ := rfl
@[simp] theorem State.answerIllegal_mspLog : (s.answerIllegal).mspLog = s.mspLog := rfl

/-! ### idle -/

@[simp] theorem State.idle_cfg : (s.idle).cfg = s.cfg := rfl
@[simp] theorem State.idle_fsm : (s.idle).fsm = s.fsm := rfl
@[simp] theorem State.idle_cnt : (s.idle).cnt = s.cnt := rfl
@[simp] theorem State.idle_wbuf : (s.idle).wbuf = s.wbuf := rfl
@[simp] theorem State.idle_rxCount : (s.idle).rxCount = s.rxCount := rfl
@[simp] theorem State.idle_updated : (s.idle).updated = s.updated := rfl
@[simp] theorem State.idle_locked : (s.idle).locked = s.locked := rfl
@[simp] theorem State.idle_arena : (s.idle).arena = s.arena := rfl
@[simp] theorem State.idle_cursor : (s.idle).cursor = s.cursor := rfl
@[simp] theorem State.idle_txValid : (s.idle).txValid = s.txValid := rfl
@[simp] theorem State.idle_txSlot : (s.idle).txSlot = s.txSlot := rfl
@[simp] theorem State.idle_txLen : (s.idle).txLen = s.txLen := rfl
@[simp] theorem State.idle_latchBoot : (s.idle).latchBoot = s.latchBoot := rfl
@[simp] theorem State.idle_latchBind : (s.idle).latchBind = s.latchBind := rfl
@[simp] theorem State.idle_latchMm : (s.idle).latchMm = s.latchMm := rfl
@[simp] theorem State.idle_latchPing : (s.idle).latchPing = s.latchPing := rfl
@[simp] theorem State.idle_mmId : (s.idle).mmId = s.mmId := rfl
@[simp] theorem State.idle_inputs : (s.idle).inputs = s.inputs := rfl
@[simp] theorem State.idle_rsp : (s.idle).rsp = none := rfl
@[simp] theorem State.idle_mspLog : (s.idle).mspLog = s.mspLog := rfl

/-! ### markUpdated -/

@[simp] theorem State.markUpdated_cfg (k : Nat) : (s.markUpdated k).cfg = s.cfg := rfl
@[simp] theorem State.markUpdated_fsm (k : Nat) : (s.markUpdated k).fsm = s.fsm := rfl
@[simp] theorem State.markUpdated_cnt (k : Nat) : (s.markUpdated k).cnt = s.cnt := rfl
@[simp] theorem State.markUpdated_wbuf (k : Nat) : (s.markUpdated k).wbuf = s.wbuf := rfl
@[simp] theorem State.markUpdated_rxCount (k : Nat) : (s.markUpdated k).rxCount = s.rxCount := rfl
@[simp] theorem State.markUpdated_updated (k : Nat) : (s.markUpdated k).updated = s.updated.set k true := rfl
@[simp] theorem State.markUpdated_locked (k : Nat) : (s.markUpdated k).locked = s.locked := rfl
@[simp] theorem State.markUpdated_arena (k : Nat) : (s.markUpdated k).arena = s.arena := rfl
@[simp] theorem State.markUpdated_cursor (k : Nat) : (s.markUpdated k).cursor = s.cursor := rfl
@[simp] theorem State.markUpdated_txValid (k : Nat) : (s.markUpdated k).txValid = s.txValid := rfl
@[simp] theorem State.markUpdated_txSlot (k : Nat) : (s.markUpdated k).txSlot = s.txSlot := rfl
@[simp] theorem State.markUpdated_txLen (k : Nat) : (s.markUpdated k).txLen = s.txLen := rfl
@[simp] theorem State.markUpdated_latchBoot (k : Nat) : (s.markUpdated k).latchBoot = s.latchBoot := rfl
@[simp] theorem State.markUpdated_latchBind (k : Nat) : (s.markUpdated k).latchBind = s.latchBind := rfl
@[simp] theorem State.markUpdated_latchMm (k : Nat) : (s.markUpdated k).latchMm = s.latchMm := rfl
@[simp] theorem State.markUpdated_latchPing (k : Nat) : (s.markUpdated k).latchPing = s.latchPing := rfl
@[simp] theorem State.markUpdated_mmId (k : Nat) : (s.markUpdated k).mmId = s.mmId := rfl
@[simp] theorem State.markUpdated_inputs (k : Nat) : (s.markUpdated k).inputs = s.inputs := rfl
@[simp] theorem State.markUpdated_rsp (k : Nat) : (s.markUpdated k).rsp = s.rsp := rfl
@[simp] theorem State.markUpdated_mspLog (k : Nat) : (s.markUpdated k).mspLog = s.mspLog := rfl

/-! ### lockSlot -/

@[simp] theorem State.lockSlot_cfg (k : Nat) : (s.lockSlot k).cfg = s.cfg := rfl
@[simp] theorem State.lockSlot_fsm (k : Nat) : (s.lockSlot k).fsm = s.fsm := rfl
@[simp] theorem State.lockSlot_cnt (k : Nat) : (s.lockSlot k).cnt = s.cnt := rfl
@[simp] theorem State.lockSlot_wbuf (k : Nat) : (s.lockSlot k).wbuf = s.wbuf := rfl
@[simp] theorem State.lockSlot_rxCount (k : Nat) : (s.lockSlot k).rxCount = s.rxCount := rfl
@[simp] theorem State.lockSlot_updated (k : Nat) : (s.lockSlot k).updated = s.updated := rfl
@[simp] theorem State.lockSlot_locked (k : Nat) : (s.lockSlot k).locked = s.locked.set k true := rfl
@[simp] theorem State.lockSlot_arena (k : Nat) : (s.lockSlot k).arena = s.arena := rfl
@[simp] theorem State.lockSlot_cursor (k : Nat) : (s.lockSlot k).cursor = s.cursor := rfl
@[simp] theorem State.lockSlot_txValid (k : Nat) : (s.lockSlot k).txValid = s.txValid := rfl
@[simp] theorem State.lockSlot_txSlot (k : Nat) : (s.lockSlot k).txSlot = s.txSlot := rfl
@[simp] theorem State.lockSlot_txLen (k : Nat) : (s.lockSlot k).txLen = s.txLen := rfl
@[simp] theorem State.lockSlot_latchBoot (k : Nat) : (s.lockSlot k).latchBoot = s.latchBoot := rfl
@[simp] theorem State.lockSlot_latchBind (k : Nat) : (s.lockSlot k).latchBind = s.latchBind := rfl
@[simp] theorem State.lockSlot_latchMm (k : Nat) : (s.lockSlot k).latchMm = s.latchMm := rfl
@[simp] theorem State.lockSlot_latchPing (k : Nat) : (s.lockSlot k).latchPing = s.latchPing := rfl
@[simp] theorem State.lockSlot_mmId (k : Nat) : (s.lockSlot k).mmId = s.mmId := rfl
@[simp] theorem State.lockSlot_inputs (k : Nat) : (s.lockSlot k).inputs = s.inputs := rfl
@[simp] theorem State.lockSlot_rsp (k : Nat) : (s.lockSlot k).rsp = s.rsp := rfl
@[simp] theorem State.lockSlot_mspLog (k : Nat) : (s.lockSlot k).mspLog = s.mspLog := rfl

/-! ### releaseSlot -/

@[simp] theorem State.releaseSlot_cfg (k : Nat) : (s.releaseSlot k).cfg = s.cfg := rfl
@[simp] theorem State.releaseSlot_fsm (k : Nat) : (s.releaseSlot k).fsm = s.fsm := rfl
@[simp] theorem State.releaseSlot_cnt (k : Nat) : (s.releaseSlot k).cnt = s.cnt := rfl
@[simp] theorem State.releaseSlot_wbuf (k : Nat) : (s.releaseSlot k).wbuf = s.wbuf := rfl
@[simp] theorem State.releaseSlot_rxCount (k : Nat) : (s.releaseSlot k).rxCount = s.rxCount := rfl
@[simp] theorem State.releaseSlot_updated (k : Nat) : (s.releaseSlot k).updated = s.updated.set k false := rfl
@[simp] theorem State.releaseSlot_locked (k : Nat) : (s.releaseSlot k).locked = s.locked.set k false := rfl
@[simp] theorem State.releaseSlot_arena (k : Nat) : (s.releaseSlot k).arena = s.arena := rfl
@[simp] theorem State.releaseSlot_cursor (k : Nat) : (s.releaseSlot k).cursor = s.cursor := rfl
@[simp] theorem State.releaseSlot_txValid (k : Nat) : (s.releaseSlot k).txValid = s.txValid := rfl
@[simp] theorem State.releaseSlot_txSlot (k : Nat) : (s.releaseSlot k).txSlot = s.txSlot := rfl
@[simp] theorem State.releaseSlot_txLen (k : Nat) : (s.releaseSlot k).txLen = s.txLen := rfl
@[simp] theorem State.releaseSlot_latchBoot (k : Nat) : (s.releaseSlot k).latchBoot = s.latchBoot := rfl
@[simp] theorem State.releaseSlot_latchBind (k : Nat) : (s.releaseSlot k).latchBind = s.latchBind := rfl
@[simp] theorem State.releaseSlot_latchMm (k : Nat) : (s.releaseSlot k).latchMm = s.latchMm := rfl
@[simp] theorem State.releaseSlot_latchPing (k : Nat) : (s.releaseSlot k).latchPing = s.latchPing := rfl
@[simp] theorem State.releaseSlot_mmId (k : Nat) : (s.releaseSlot k).mmId = s.mmId := rfl
@[simp] theorem State.releaseSlot_inputs (k : Nat) : (s.releaseSlot k).inputs = s.inputs := rfl
@[simp] theorem State.releaseSlot_rsp (k : Nat) : (s.releaseSlot k).rsp = s.rsp := rfl
@[simp] theorem State.releaseSlot_mspLog (k : Nat) : (s.releaseSlot k).mspLog = s.mspLog := rfl

/-! ### clearSlotFlags -/

@[simp] theorem State.clearSlotFlags_cfg : (s.clearSlotFlags).cfg = s.cfg := rfl
@[simp] theorem State.clearSlotFlags_fsm : (s.clearSlotFlags).fsm = s.fsm := rfl
@[simp] theorem State.clearSlotFlags_cnt : (s.clearSlotFlags).cnt = s.cnt := rfl
@[simp] theorem State.clearSlotFlags_wbuf : (s.clearSlotFlags).wbuf = s.wbuf := rfl
@[simp] theorem State.clearSlotFlags_rxCount : (s.clearSlotFlags).rxCount = s.rxCount := rfl
@[simp] theorem State.clearSlotFlags_updated : (s.clearSlotFlags).updated = List.replicate s.cfg.n false := rfl
@[simp] theorem State.clearSlotFlags_locked : (s.clearSlotFlags).locked = List.replicate s.cfg.n false := rfl
@[simp] theorem State.clearSlotFlags_arena : (s.clearSlotFlags).arena = s.arena := rfl
@[simp] theorem State.clearSlotFlags_cursor : (s.clearSlotFlags).cursor = s.cursor := rfl
@[simp] theorem State.clearSlotFlags_txValid : (s.clearSlotFlags).txValid = s.txValid := rfl
@[simp] theorem State.clearSlotFlags_txSlot : (s.clearSlotFlags).txSlot = s.txSlot := rfl
@[simp] theorem State.clearSlotFlags_txLen : (s.clearSlotFlags).txLen = s.txLen := rfl
@[simp] theorem State.clearSlotFlags_latchBoot : (s.clearSlotFlags).latchBoot = s.latchBoot := rfl
@[simp] theorem State.clearSlotFlags_latchBind : (s.clearSlotFlags).latchBind = s.latchBind := rfl
@[simp] theorem State.clearSlotFlags_latchMm : (s.clearSlotFlags).latchMm = s.latchMm := rfl
@[simp] theorem State.clearSlotFlags_latchPing : (s.clearSlotFlags).latchPing = s.latchPing := rfl
@[simp] theorem State.clearSlotFlags_mmId : (s.clearSlotFlags).mmId = s.mmId := rfl
@[simp] theorem State.clearSlotFlags_inputs : (s.clearSlotFlags).inputs = s.inputs := rfl
@[simp] theorem State.clearSlotFlags_rsp : (s.clearSlotFlags).rsp = s.rsp := rfl
@[simp] theorem State.clearSlotFlags_mspLog : (s.clearSlotFlags).mspLog = s.mspLog := rfl

/-! ### setBoot -/

@[simp] theorem State.setBoot_cfg (v : Bool) : (s.setBoot v).cfg = s.cfg := rfl
@[simp] theorem State.setBoot_fsm (v : Bool) : (s.setBoot v).fsm = s.fsm := rfl
@[simp] theorem State.setBoot_cnt (v : Bool) : (s.setBoot v).cnt = s.cnt := rfl
@[simp] theorem State.setBoot_wbuf (v : Bool) : (s.setBoot v).wbuf = s.wbuf := rfl
@[simp] theorem State.setBoot_rxCount (v : Bool) : (s.setBoot v).rxCount = s.rxCount := rfl
@[simp] theorem State.setBoot_updated (v : Bool) : (s.setBoot v).updated = s.updated := rfl
@[simp] theorem State.setBoot_locked (v : Bool) : (s.setBoot v).locked = s.locked := rfl
@[simp] theorem State.setBoot_arena (v : Bool) : (s.setBoot v).arena = s.arena := rfl
@[simp] theorem State.setBoot_cursor (v : Bool) : (s.setBoot v).cursor = s.cursor := rfl
@[simp] theorem State.setBoot_txValid (v : Bool) : (s.setBoot v).txValid = s.txValid := rfl
@[simp] theorem State.setBoot_txSlot (v : Bool) : (s.setBoot v).txSlot = s.txSlot := rfl
@[simp] theorem State.setBoot_txLen (v : Bool) : (s.setBoot v).txLen = s.txLen := rfl
@[simp] theorem State.setBoot_latchBoot (v : Bool) : (s.setBoot v).latchBoot = v := rfl
@[simp] theorem State.setBoot_latchBind (v : Bool) : (s.setBoot v).latchBind = s.latchBind := rfl
@[simp] theorem State.setBoot_latchMm (v : Bool) : (s.setBoot v).latchMm = s.latchMm := rfl
@[simp] theorem State.setBoot_latchPing (v : Bool) : (s.setBoot v).latchPing = s.latchPing := rfl
@[simp] theorem State.setBoot_mmId (v : Bool) : (s.setBoot v).mmId = s.mmId := rfl
@[simp] theorem State.setBoot_inputs (v : Bool) : (s.setBoot v).inputs = s.inputs := rfl
@[simp] theorem State.setBoot_rsp (v : Bool) : (s.setBoot v).rsp = s.rsp := rfl
@[simp] theorem State.setBoot_mspLog (v : Bool) : (s.setBoot v).mspLog = s.mspLog := rfl

/-! ### setBind -/

@[simp] theorem State.setBind_cfg (v : Bool) : (s.setBind v).cfg = s.cfg := rfl
@[simp] theorem State.setBind_fsm (v : Bool) : (s.setBind v).fsm = s.fsm := rfl
@[simp] theorem State.setBind_cnt (v : Bool) : (s.setBind v).cnt = s.cnt := rfl
@[simp] theorem State.setBind_wbuf (v : Bool) : (s.setBind v).wbuf = s.wbuf := rfl
@[simp] theorem State.setBind_rxCount (v : Bool) : (s.setBind v).rxCount = s.rxCount := rfl
@[simp] theorem State.setBind_updated (v : Bool) : (s.setBind v).updated = s.updated := rfl
@[simp] theorem State.setBind_locked (v : Bool) : (s.setBind v).locked = s.locked := rfl
@[simp] theorem State.setBind_arena (v : Bool) : (s.setBind v).arena = s.arena := rfl
@[simp] theorem State.setBind_cursor (v : Bool) : (s.setBind v).cursor = s.cursor := rfl
@[simp] theorem State.setBind_txValid (v : Bool) : (s.setBind v).txValid = s.txValid := rfl
@[simp] theorem State.setBind_txSlot (v : Bool) : (s.setBind v).txSlot = s.txSlot := rfl
@[simp] theorem State.setBind_txLen (v : Bool) : (s.setBind v).txLen = s.txLen := rfl
@[simp] theorem State.setBind_latchBoot (v : Bool) : (s.setBind v).latchBoot = s.latchBoot := rfl
@[simp] theorem State.setBind_latchBind (v : Bool) : (s.setBind v).latchBind = v := rfl
@[simp] theorem State.setBind_latchMm (v : Bool) : (s.setBind v).latchMm = s.latchMm := rfl
@[simp] theorem State.setBind_latchPing (v : Bool) : (s.setBind v).latchPing = s.latchPing := rfl
@[simp] theorem State.setBind_mmId (v : Bool) : (s.setBind v).mmId = s.mmId := rfl
@[simp] theorem State.setBind_inputs (v : Bool) : (s.setBind v).inputs = s.inputs := rfl
@[simp] theorem State.setBind_rsp (v : Bool) : (s.setBind v).rsp = s.rsp := rfl
@[simp] theorem State.setBind_mspLog (v : Bool) : (s.setBind v).mspLog = s.mspLog := rfl

/-! ### setMm -/

@[simp] theorem State.setMm_cfg (v : Bool) : (s.setMm v).cfg = s.cfg := rfl
@[simp] theorem State.setMm_fsm (v : Bool) : (s.setMm v).fsm = s.fsm := rfl
@[simp] theorem State.setMm_cnt (v : Bool) : (s.setMm v).cnt = s.cnt := rfl
@[simp] theorem State.setMm_wbuf (v : Bool) : (s.setMm v).wbuf = s.wbuf := rfl
@[simp] theorem State.setMm_rxCount (v : Bool) : (s.setMm v).rxCount = s.rxCount := rfl
@[simp] theorem State.setMm_updated (v : Bool) : (s.setMm v).updated = s.updated := rfl
@[simp] theorem State.setMm_locked (v : Bool) : (s.setMm v).locked = s.locked := rfl
@[simp] theorem State.setMm_arena (v : Bool) : (s.setMm v).arena = s.arena := rfl
@[simp] theorem State.setMm_cursor (v : Bool) : (s.setMm v).cursor = s.cursor := rfl
@[simp] theorem State.setMm_txValid (v : Bool) : (s.setMm v).txValid = s.txValid := rfl
@[simp] theorem State.setMm_txSlot (v : Bool) : (s.setMm v).txSlot = s.txSlot := rfl
@[simp] theorem State.setMm_txLen (v : Bool) : (s.setMm v).txLen = s.txLen := rfl
@[simp] theorem State.setMm_latchBoot (v : Bool) : (s.setMm v).latchBoot = s.latchBoot := rfl
@[simp] theorem State.setMm_latchBind (v : Bool) : (s.setMm v).latchBind = s.latchBind := rfl
@[simp] theorem State.setMm_latchMm (v : Bool) : (s.setMm v).latchMm = v := rfl
@[simp] theorem State.setMm_latchPing (v : Bool) : (s.setMm v).latchPing = s.latchPing := rfl
@[simp] theorem State.setMm_mmId (v : Bool) : (s.setMm v).mmId = s.mmId := rfl
@[simp] theorem State.setMm_inputs (v : Bool) : (s.setMm v).inputs = s.inputs := rfl
@[simp] theorem State.setMm_rsp (v : Bool) : (s.setMm v).rsp = s.rsp := rfl
@[simp] theorem State.setMm_mspLog (v : Bool) : (s.setMm v).mspLog = s.mspLog := rfl

/-! ### setPing -/

@[simp] theorem State.setPing_cfg (v : Bool) : (s.setPing v).cfg = s.cfg := rfl
@[simp] theorem State.setPing_fsm (v : Bool) : (s.setPing v).fsm = s.fsm := rfl
@[simp] theorem State.setPing_cnt (v : Bool) : (s.setPing v).cnt = s.cnt := rfl
@[simp] theorem State.setPing_wbuf (v : Bool) : (s.setPing v).wbuf = s.wbuf := rfl
@[simp] theorem State.setPing_rxCount (v : Bool) : (s.setPing v).rxCount = s.rxCount := rfl
@[simp] theorem State.setPing_updated (v : Bool) : (s.setPing v).updated = s.updated := rfl
@[simp] theorem State.setPing_locked (v : Bool) : (s.setPing v).locked = s.locked := rfl
@[simp] theorem State.setPing_arena (v : Bool) : (s.setPing v).arena = s.arena := rfl
@[simp] theorem State.setPing_cursor (v : Bool) : (s.setPing v).cursor = s.cursor := rfl
@[simp] theorem State.setPing_txValid (v : Bool) : (s.setPing v).txValid = s.txValid := rfl
@[simp] theorem State.setPing_txSlot (v : Bool) : (s.setPing v).txSlot = s.txSlot := rfl
@[simp] theorem State.setPing_txLen (v : Bool) : (s.setPing v).txLen = s.txLen := rfl
@[simp] theorem State.setPing_latchBoot (v : Bool) : (s.setPing v).latchBoot = s.latchBoot := rfl
@[simp] theorem State.setPing_latchBind (v : Bool) : (s.setPing v).latchBind = s.latchBind := rfl
@[simp] theorem State.setPing_latchMm (v : Bool) : (s.setPing v).latchMm = s.latchMm := rfl
@[simp] theorem State.setPing_latchPing (v : Bool) : (s.setPing v).latchPing = v := rfl
@[simp] theorem State.setPing_mmId (v : Bool) : (s.setPing v).mmId = s.mmId := rfl
@[simp] theorem State.setPing_inputs (v : Bool) : (s.setPing v).inputs = s.inputs := rfl
@[simp] theorem State.setPing_rsp (v : Bool) : (s.setPing v).rsp = s.rsp := rfl
@[simp] theorem State.setPing_mspLog (v : Bool) : (s.setPing v).mspLog = s.mspLog := rfl

/-! ### captureMm -/

@[simp] theorem State.captureMm_cfg (id : Byte) : (s.captureMm id).cfg = s.cfg := rfl
@[simp] theorem State.captureMm_fsm (id : Byte) : (s.captureMm id).fsm = s.fsm := rfl
@[simp] theorem State.captureMm_cnt (id : Byte) : (s.captureMm id).cnt = s.cnt := rfl
@[simp] theorem State.captureMm_wbuf (id : Byte) : (s.captureMm id).wbuf = s.wbuf := rfl
@[simp] theorem State.captureMm_rxCount (id : Byte) : (s.captureMm id).rxCount = s.rxCount := rfl
@[simp] theorem State.captureMm_updated (id : Byte) : (s.captureMm id).updated = s.updated := rfl
@[simp] theorem State.captureMm_locked (id : Byte) : (s.captureMm id).locked = s.locked := rfl
@[simp] theorem State.captureMm_arena (id : Byte) : (s.captureMm id).arena = s.arena := rfl
@[simp] theorem State.captureMm_cursor (id : Byte) : (s.captureMm id).cursor = s.cursor := rfl
@[simp] theorem State.captureMm_txValid (id : Byte) : (s.captureMm id).txValid = s.txValid := rfl
@[simp] theorem State.captureMm_txSlot (id : Byte) : (s.captureMm id).txSlot = s.txSlot := rfl
@[simp] theorem State.captureMm_txLen (id : Byte) : (s.captureMm id).txLen = s.txLen := rfl
@[simp] theorem State.captureMm_latchBoot (id : Byte) : (s.captureMm id).latchBoot = s.latchBoot := rfl
@[simp] theorem State.captureMm_latchBind (id : Byte) : (s.captureMm id).latchBind = s.latchBind := rfl
@[simp] theorem State.captureMm_latchMm (id : Byte) : (s.captureMm id).latchMm = true := rfl
@[simp] theorem State.captureMm_latchPing (id : Byte) : (s.captureMm id).latchPing = s.latchPing := rfl
@[simp] theorem State.captureMm_mmId (id : Byte) : (s.captureMm id).mmId = id := rfl
@[simp] theorem State.captureMm_inputs (id : Byte) : (s.captureMm id).inputs = s.inputs := rfl
@[simp] theorem State.captureMm_rsp (id : Byte) : (s.captureMm id).rsp = s.rsp := rfl
@[simp] theorem State.captureMm_mspLog (id : Byte) : (s.captureMm id).mspLog = s.mspLog := rfl

/-! ### emitMsp -/

@[simp] theorem State.emitMsp_cfg (bytes : List Byte) : (s.emitMsp bytes).cfg = s.cfg := rfl
@[simp] theorem State.emitMsp_fsm (bytes : List Byte) : (s.emitMsp bytes).fsm = s.fsm := rfl
@[simp] theorem State.emitMsp_cnt (bytes : List Byte) : (s.emitMsp bytes).cnt = s.cnt := rfl
@[simp] theorem State.emitMsp_wbuf (bytes : List Byte) : (s.emitMsp bytes).wbuf = s.wbuf := rfl
@[simp] theorem State.emitMsp_rxCount (bytes : List Byte) : (s.emitMsp bytes).rxCount = s.rxCount := rfl
@[simp] theorem State.emitMsp_updated (bytes : List Byte) : (s.emitMsp bytes).updated = s.updated := rfl
@[simp] theorem State.emitMsp_locked (bytes : List Byte) : (s.emitMsp bytes).locked = s.locked := rfl
@[simp] theorem State.emitMsp_arena (bytes : List Byte) : (s.emitMsp bytes).arena = s.arena := rfl
@[simp] theorem State.emitMsp_cursor (bytes : List Byte) : (s.emitMsp bytes).cursor = s.cursor := rfl
@[simp] theorem State.emitMsp_txValid (bytes : List Byte) : (s.emitMsp bytes).txValid = s.txValid := rfl
@[simp] theorem State.emitMsp_txSlot (bytes : List Byte) : (s.emitMsp bytes).txSlot = s.txSlot := rfl
@[simp] theorem State.emitMsp_txLen (bytes : List Byte) : (s.emitMsp bytes).txLen = s.txLen := rfl
@[simp] theorem State.emitMsp_latchBoot (bytes : List Byte) : (s.emitMsp bytes).latchBoot = s.latchBoot := rfl
@[simp] theorem State.emitMsp_latchBind (bytes : List Byte) : (s.emitMsp bytes).latchBind = s.latchBind := rfl
@[simp] theorem State.emitMsp_latchMm (bytes : List Byte) : (s.emitMsp bytes).latchMm = s.latchMm := rfl
@[simp] theorem State.emitMsp_latchPing (bytes : List Byte) : (s.emitMsp bytes).latchPing = s.latchPing := rfl
@[simp] theorem State.emitMsp_mmId (bytes : List Byte) : (s.emitMsp bytes).mmId = s.mmId := rfl
@[simp] theorem State.emitMsp_inputs (bytes : List Byte) : (s.emitMsp bytes).inputs = s.inputs := rfl
@[simp] theorem State.emitMsp_rsp (bytes : List Byte) : (s.emitMsp bytes).rsp = s.rsp := rfl
@[simp] theorem State.emitMsp_mspLog (bytes : List Byte) : (s.emitMsp bytes).mspLog = s.mspLog ++ [bytes] := rfl

/-! ### countFrame -/

@[simp] theorem State.countFrame_cfg : (s.countFrame).cfg = s.cfg := rfl
@[simp] theorem State.countFrame_fsm : (s.countFrame).fsm = s.fsm := rfl
@[simp] theorem State.countFrame_cnt : (s.countFrame).cnt = s.cnt := rfl
@[simp] theorem State.countFrame_wbuf : (s.countFrame).wbuf = s.wbuf := rfl
@[simp] theorem State.countFrame_rxCount : (s.countFrame).rxCount = (s.rxCount + 1) % 2 ^ s.cfg.cntW := rfl
@[simp] theorem State.countFrame_updated : (s.countFrame).updated = s.updated := rfl
@[simp] theorem State.countFrame_locked : (s.countFrame).locked = s.locked := rfl
@[simp] theorem State.countFrame_arena : (s.countFrame).arena = s.arena := rfl
@[simp] theorem State.countFrame_cursor : (s.countFrame).cursor = s.cursor := rfl
@[simp] theorem State.countFrame_txValid : (s.countFrame).txValid = s.txValid := rfl
@[simp] theorem State.countFrame_txSlot : (s.countFrame).txSlot = s.txSlot := rfl
@[simp] theorem State.countFrame_txLen : (s.countFrame).txLen = s.txLen := rfl
@[simp] theorem State.countFrame_latchBoot : (s.countFrame).latchBoot = s.latchBoot := rfl
@[simp] theorem State.countFrame_latchBind : (s.countFrame).latchBind = s.latchBind := rfl
@[simp] theorem State.countFrame_latchMm : (s.countFrame).latchMm = s.latchMm := rfl
@[simp] theorem State.countFrame_latchPing : (s.countFrame).latchPing = s.latchPing := rfl
@[simp] theorem State.countFrame_mmId : (s.countFrame).mmId = s.mmId := rfl
@[simp] theorem State.countFrame_inputs : (s.countFrame).inputs = s.inputs := rfl
@[simp] theorem State.countFrame_rsp : (s.countFrame).rsp = s.rsp := rfl
@[simp] theorem State.countFrame_mspLog : (s.countFrame).mspLog = s.mspLog := rfl

/-! ### noPayload -/

@[simp] theorem State.noPayload_cfg : (s.noPayload).cfg = s.cfg := rfl
@[simp] theorem State.noPayload_fsm : (s.noPayload).fsm = s.fsm := rfl
@[simp] theorem State.noPayload_cnt : (s.noPayload).cnt = s.cnt := rfl
@[simp] theorem State.noPayload_wbuf : (s.noPayload).wbuf = s.wbuf := rfl
@[simp] theorem State.noPayload_rxCount : (s.noPayload).rxCount = s.rxCount := rfl
@[simp] theorem State.noPayload_updated : (s.noPayload).updated = s.updated := rfl
@[simp] theorem State.noPayload_locked : (s.noPayload).locked = s.locked := rfl
@[simp] theorem State.noPayload_arena : (s.noPayload).arena = s.arena := rfl
@[simp] theorem State.noPayload_cursor : (s.noPayload).cursor = s.cursor := rfl
@[simp] theorem State.noPayload_txValid : (s.noPayload).txValid = false := rfl
@[simp] theorem State.noPayload_txSlot : (s.noPayload).txSlot = s.txSlot := rfl
@[simp] theorem State.noPayload_txLen : (s.noPayload).txLen = s.txLen := rfl
@[simp] theorem State.noPayload_latchBoot : (s.noPayload).latchBoot = s.latchBoot := rfl
@[simp] theorem State.noPayload_latchBind : (s.noPayload).latchBind = s.latchBind := rfl
@[simp] theorem State.noPayload_latchMm : (s.noPayload).latchMm = s.latchMm := rfl
@[simp] theorem State.noPayload_latchPing : (s.noPayload).latchPing = s.latchPing := rfl
@[simp] theorem State.noPayload_mmId : (s.noPayload).mmId = s.mmId := rfl
@[simp] theorem State.noPayload_inputs : (s.noPayload).inputs = s.inputs := rfl
@[simp] theorem State.noPayload_rsp :
    (s.noPayload).rsp = some ⟨Status.empty.code, false, false, Route.none.code, 0#32⟩ := rfl
@[simp] theorem State.noPayload_mspLog : (s.noPayload).mspLog = s.mspLog := rfl

/-! ### present -/

@[simp] theorem State.present_cfg (k r : Nat) : (s.present k r).cfg = s.cfg := rfl
@[simp] theorem State.present_fsm (k r : Nat) : (s.present k r).fsm = s.fsm := rfl
@[simp] theorem State.present_cnt (k r : Nat) : (s.present k r).cnt = s.cnt := rfl
@[simp] theorem State.present_wbuf (k r : Nat) : (s.present k r).wbuf = s.wbuf := rfl
@[simp] theorem State.present_rxCount (k r : Nat) : (s.present k r).rxCount = s.rxCount := rfl
@[simp] theorem State.present_updated (k r : Nat) : (s.present k r).updated = s.updated := rfl
@[simp] theorem State.present_locked (k r : Nat) : (s.present k r).locked = s.locked := rfl
@[simp] theorem State.present_arena (k r : Nat) : (s.present k r).arena = s.arena := rfl
@[simp] theorem State.present_cursor (k r : Nat) : (s.present k r).cursor = BitVec.ofNat 6 k := rfl
@[simp] theorem State.present_txValid (k r : Nat) : (s.present k r).txValid = true := rfl
@[simp] theorem State.present_txSlot (k r : Nat) : (s.present k r).txSlot = BitVec.ofNat 6 k := rfl
@[simp] theorem State.present_txLen (k r : Nat) : (s.present k r).txLen = BitVec.ofNat 9 r := rfl
@[simp] theorem State.present_latchBoot (k r : Nat) : (s.present k r).latchBoot = s.latchBoot := rfl
@[simp] theorem State.present_latchBind (k r : Nat) : (s.present k r).latchBind = s.latchBind := rfl
@[simp] theorem State.present_latchMm (k r : Nat) : (s.present k r).latchMm = s.latchMm := rfl
@[simp] theorem State.present_latchPing (k r : Nat) : (s.present k r).latchPing = s.latchPing := rfl
@[simp] theorem State.present_mmId (k r : Nat) : (s.present k r).mmId = s.mmId := rfl
@[simp] theorem State.present_inputs (k r : Nat) : (s.present k r).inputs = s.inputs := rfl
@[simp] theorem State.present_rsp (k r : Nat) :
    (s.present k r).rsp = some ⟨Status.ok.code, true, false, Route.none.code, zextPair (BitVec.ofNat 8 k) (BitVec.ofNat 8 r)⟩ := rfl
@[simp] theorem State.present_mspLog (k r : Nat) : (s.present k r).mspLog = s.mspLog := rfl

/-! ### fullReset -/

@[simp] theorem State.fullReset_cfg : s.fullReset.cfg = s.cfg := rfl
@[simp] theorem State.fullReset_fsm : s.fullReset.fsm = .idle := rfl
@[simp] theorem State.fullReset_cnt : s.fullReset.cnt = 0#8 := rfl
@[simp] theorem State.fullReset_wbuf : s.fullReset.wbuf = [] := rfl
@[simp] theorem State.fullReset_rxCount : s.fullReset.rxCount = 0 := rfl
@[simp] theorem State.fullReset_updated : s.fullReset.updated = List.replicate s.cfg.n false := rfl
@[simp] theorem State.fullReset_locked : s.fullReset.locked = List.replicate s.cfg.n false := rfl
@[simp] theorem State.fullReset_arena : s.fullReset.arena = [] := rfl
@[simp] theorem State.fullReset_cursor : s.fullReset.cursor = 0#6 := rfl
@[simp] theorem State.fullReset_txValid : s.fullReset.txValid = false := rfl
@[simp] theorem State.fullReset_txSlot : s.fullReset.txSlot = 0#6 := rfl
@[simp] theorem State.fullReset_txLen : s.fullReset.txLen = 0#9 := rfl
@[simp] theorem State.fullReset_latchBoot : s.fullReset.latchBoot = false := rfl
@[simp] theorem State.fullReset_latchBind : s.fullReset.latchBind = false := rfl
@[simp] theorem State.fullReset_latchMm : s.fullReset.latchMm = false := rfl
@[simp] theorem State.fullReset_latchPing : s.fullReset.latchPing = false := rfl
@[simp] theorem State.fullReset_mmId : s.fullReset.mmId = 0x00#8 := rfl
@[simp] theorem State.fullReset_inputs : s.fullReset.inputs = s.inputs := rfl
@[simp] theorem State.fullReset_rsp : s.fullReset.rsp = none := rfl
@[simp] theorem State.fullReset_mspLog : s.fullReset.mspLog = s.mspLog := rfl

/-! ### resetWith -/

@[simp] theorem State.resetWith_cfg (c : Cfg) : (State.resetWith c).cfg = c := rfl
@[simp] theorem State.resetWith_fsm (c : Cfg) : (State.resetWith c).fsm = .idle := rfl
@[simp] theorem State.resetWith_cnt (c : Cfg) : (State.resetWith c).cnt = 0#8 := rfl
@[simp] theorem State.resetWith_wbuf (c : Cfg) : (State.resetWith c).wbuf = [] := rfl
@[simp] theorem State.resetWith_rxCount (c : Cfg) : (State.resetWith c).rxCount = 0 := rfl
@[simp] theorem State.resetWith_updated (c : Cfg) : (State.resetWith c).updated = List.replicate c.n false := rfl
@[simp] theorem State.resetWith_locked (c : Cfg) : (State.resetWith c).locked = List.replicate c.n false := rfl
@[simp] theorem State.resetWith_arena (c : Cfg) : (State.resetWith c).arena = [] := rfl
@[simp] theorem State.resetWith_cursor (c : Cfg) : (State.resetWith c).cursor = 0#6 := rfl
@[simp] theorem State.resetWith_txValid (c : Cfg) : (State.resetWith c).txValid = false := rfl
@[simp] theorem State.resetWith_txSlot (c : Cfg) : (State.resetWith c).txSlot = 0#6 := rfl
@[simp] theorem State.resetWith_txLen (c : Cfg) : (State.resetWith c).txLen = 0#9 := rfl
@[simp] theorem State.resetWith_latchBoot (c : Cfg) : (State.resetWith c).latchBoot = false := rfl
@[simp] theorem State.resetWith_latchBind (c : Cfg) : (State.resetWith c).latchBind = false := rfl
@[simp] theorem State.resetWith_latchMm (c : Cfg) : (State.resetWith c).latchMm = false := rfl
@[simp] theorem State.resetWith_latchPing (c : Cfg) : (State.resetWith c).latchPing = false := rfl
@[simp] theorem State.resetWith_mmId (c : Cfg) : (State.resetWith c).mmId = 0x00#8 := rfl
@[simp] theorem State.resetWith_inputs (c : Cfg) : (State.resetWith c).inputs = [] := rfl
@[simp] theorem State.resetWith_rsp (c : Cfg) : (State.resetWith c).rsp = none := rfl
@[simp] theorem State.resetWith_mspLog (c : Cfg) : (State.resetWith c).mspLog = [] := rfl

end Sys2Proof.Machine
end

