-- ==== Sys2Proof/Laws/Flags.lean ====
section
/-! SUPPORT. What the reads of the slot flags and of a slot's buffer give after each update of the flags. -/

namespace Sys2Proof.Machine

variable (s : State)

theorem getD_set_bool (l : List Bool) (k j : Nat) (v : Bool) :
    (l.set k v).getD j false = if j = k ∧ k < l.length then v else l.getD j false := by
  simp only [List.getD_eq_getElem?_getD, List.getElem?_set]
  by_cases h : k = j
  · subst h
    by_cases hk : k < l.length
    · simp [hk]
    · simp [hk]
  · rw [if_neg h, if_neg (fun hh => h hh.1.symm)]

theorem State.markUpdated_updatedAt (k j : Nat) :
    (s.markUpdated k).updatedAt j = if j = k ∧ k < s.updated.length then true else s.updatedAt j :=
  getD_set_bool s.updated k j true

theorem State.lockSlot_lockedAt (k j : Nat) :
    (s.lockSlot k).lockedAt j = if j = k ∧ k < s.locked.length then true else s.lockedAt j :=
  getD_set_bool s.locked k j true

theorem State.releaseSlot_updatedAt (k j : Nat) :
    (s.releaseSlot k).updatedAt j = if j = k ∧ k < s.updated.length then false else s.updatedAt j :=
  getD_set_bool s.updated k j false

theorem State.releaseSlot_lockedAt (k j : Nat) :
    (s.releaseSlot k).lockedAt j = if j = k ∧ k < s.locked.length then false else s.lockedAt j :=
  getD_set_bool s.locked k j false

theorem getD_replicate_false (n j : Nat) : (List.replicate n false).getD j false = false := by
  simp only [List.getD_eq_getElem?_getD, List.getElem?_replicate]
  split <;> rfl

@[simp] theorem State.clearSlotFlags_updatedAt (j : Nat) : s.clearSlotFlags.updatedAt j = false :=
  getD_replicate_false s.cfg.n j

@[simp] theorem State.clearSlotFlags_lockedAt (j : Nat) : s.clearSlotFlags.lockedAt j = false :=
  getD_replicate_false s.cfg.n j

@[simp] theorem State.resetWith_updatedAt (c : Cfg) (j : Nat) : (State.resetWith c).updatedAt j = false :=
  getD_replicate_false c.n j

@[simp] theorem State.resetWith_lockedAt (c : Cfg) (j : Nat) : (State.resetWith c).lockedAt j = false :=
  getD_replicate_false c.n j

theorem State.updatedAt_lt {k : Nat} (h : s.updatedAt k = true) : k < s.updated.length := by
  by_contra hk
  simp [State.updatedAt, List.getD_eq_getElem?_getD, List.getElem?_eq_none (Nat.le_of_not_lt hk)] at h

theorem State.lockedAt_lt {k : Nat} (h : s.lockedAt k = true) : k < s.locked.length := by
  by_contra hk
  simp [State.lockedAt, List.getD_eq_getElem?_getD, List.getElem?_eq_none (Nat.le_of_not_lt hk)] at h

end Sys2Proof.Machine
end

