-- ==== Sys2Proof/Laws/Memory.lean ====
section
/-! SUPPORT. The laws of a byte store: a read after a write, and that every operation keeps the canonical
form and the size. -/

namespace Sys2Proof.Machine

theorem Memory.wfFrom_mono {lo lo' : Nat} (h : lo' ≤ lo) (m : Memory) (hm : Memory.wfFrom lo m = true) :
    Memory.wfFrom lo' m = true := by
  cases m with
  | nil => rfl
  | cons c rest =>
    obtain ⟨a, b⟩ := c
    simp only [Memory.wfFrom, Bool.and_eq_true, decide_eq_true_eq] at hm ⊢
    exact ⟨⟨by omega, hm.1.2⟩, hm.2⟩

theorem Memory.wfFrom_cons {lo a : Nat} (b : Byte) (m : Memory) (ha : lo ≤ a)
    (hm : Memory.wfFrom (a + 1) m = true) : Memory.wfFrom lo (Memory.cons a b m) = true := by
  unfold Memory.cons
  split
  · exact Memory.wfFrom_mono (by omega) m hm
  · simp_all [Memory.wfFrom]

/-- An address below all listed ones is unlisted. -/
theorem Memory.read_below {lo a : Nat} (m : Memory) (hm : Memory.wfFrom lo m = true) (ha : a < lo) :
    Memory.read m a = unlistedByte := by
  induction m generalizing lo with
  | nil => rfl
  | cons c rest ih =>
    obtain ⟨a', b⟩ := c
    simp only [Memory.wfFrom, Bool.and_eq_true, decide_eq_true_eq] at hm
    rw [Memory.read, if_neg (by omega)]
    exact ih hm.2 (by omega)

theorem Memory.read_cons (a : Nat) (b : Byte) (m : Memory) (hm : Memory.wfFrom (a + 1) m = true) (i : Nat) :
    Memory.read (Memory.cons a b m) i = if i = a then b else Memory.read m i := by
  unfold Memory.cons
  split
  · next hb =>
    split
    · next hi => rw [hb, hi]; exact Memory.read_below m hm (by omega)
    · rfl
  · rfl

theorem Memory.write_wfFrom {lo : Nat} (m : Memory) (a : Nat) (b : Byte) (ha : lo ≤ a)
    (hm : Memory.wfFrom lo m = true) : Memory.wfFrom lo (Memory.write m a b) = true := by
  induction m generalizing lo with
  | nil => exact Memory.wfFrom_cons b [] ha rfl
  | cons c rest ih =>
    obtain ⟨a', b'⟩ := c
    have hw := hm
    simp only [Memory.wfFrom, Bool.and_eq_true, decide_eq_true_eq] at hm
    unfold Memory.write
    split
    · next h =>
      refine Memory.wfFrom_cons b _ ha ?_
      simp only [Memory.wfFrom, Bool.and_eq_true, decide_eq_true_eq]
      exact ⟨⟨by omega, hm.1.2⟩, hm.2⟩
    · split
      · next h => subst h; exact Memory.wfFrom_cons b rest ha hm.2
      · simp only [Memory.wfFrom, Bool.and_eq_true, decide_eq_true_eq]
        exact ⟨hm.1, ih (by omega) hm.2⟩

/-- A write keeps the canonical form. -/
theorem Memory.write_wf (m : Memory) (a : Nat) (b : Byte) (hm : m.wf = true) : (m.write a b).wf = true :=
  Memory.write_wfFrom m a b (Nat.zero_le a) hm

theorem Memory.read_writeFrom {lo : Nat} (m : Memory) (a : Nat) (b : Byte) (hm : Memory.wfFrom lo m = true)
    (i : Nat) : Memory.read (Memory.write m a b) i = if i = a then b else Memory.read m i := by
  induction m generalizing lo with
  | nil => exact Memory.read_cons a b [] rfl i
  | cons c rest ih =>
    obtain ⟨a', b'⟩ := c
    simp only [Memory.wfFrom, Bool.and_eq_true, decide_eq_true_eq] at hm
    unfold Memory.write
    split
    · next h =>
      refine Memory.read_cons a b _ ?_ i
      simp only [Memory.wfFrom, Bool.and_eq_true, decide_eq_true_eq]
      exact ⟨⟨by omega, hm.1.2⟩, hm.2⟩
    · split
      · next h =>
        subst h
        rw [Memory.read_cons a b rest hm.2 i]
        by_cases hi : i = a
        · simp [hi]
        · simp [Memory.read, hi]
      · next h1 h2 =>
        by_cases hi : i = a'
        · subst hi
          have : ¬ i = a := fun h => h2 h.symm
          simp [Memory.read, this]
        · simp only [Memory.read, if_neg hi]
          exact ih hm.2

/-- A read after a write of one byte. -/
theorem Memory.read_write (m : Memory) (a : Nat) (b : Byte) (hm : m.wf = true) (i : Nat) :
    (m.write a b).read i = if i = a then b else m.read i :=
  Memory.read_writeFrom m a b hm i

/-- A write of a string keeps the canonical form. -/
theorem Memory.writeBytes_wf (m : Memory) (a : Nat) (bs : List Byte) (hm : m.wf = true) :
    (m.writeBytes a bs).wf = true := by
  induction bs generalizing m a with
  | nil => exact hm
  | cons b bs ih => exact ih _ _ (Memory.write_wf m a b hm)

/-- A read after a write of a string: its own bytes inside, the old byte outside. -/
theorem Memory.read_writeBytes (m : Memory) (a : Nat) (bs : List Byte) (hm : m.wf = true) (i : Nat) :
    (m.writeBytes a bs).read i = if a ≤ i ∧ i < a + bs.length then bs.getD (i - a) 0#8 else m.read i := by
  induction bs generalizing m a with
  | nil => simp [Memory.writeBytes]
  | cons b bs ih =>
    simp only [Memory.writeBytes, List.length_cons]
    rw [ih _ _ (Memory.write_wf m a b hm), Memory.read_write m a b hm]
    by_cases h1 : i = a
    · subst h1; simp
    · by_cases h2 : a + 1 ≤ i ∧ i < a + 1 + bs.length
      · rw [if_pos h2, if_pos ⟨by omega, by omega⟩]
        obtain ⟨d, hd⟩ : ∃ d, i - a = d + 1 := ⟨i - a - 1, by omega⟩
        rw [hd, show i - (a + 1) = d by omega]
        simp
      · rw [if_neg h2, if_neg h1, if_neg (by omega)]

theorem Memory.cons_below (a size : Nat) (b : Byte) (m : Memory) (ha : a < size)
    (hm : m.below size = true) : (Memory.cons a b m).below size = true := by
  unfold Memory.cons
  split
  · exact hm
  · simp only [Memory.below, List.all_cons, Bool.and_eq_true, decide_eq_true_eq] at hm ⊢
    exact ⟨ha, hm⟩

/-- A write below the size stays below it. -/
theorem Memory.write_below (m : Memory) (a size : Nat) (b : Byte) (ha : a < size)
    (hm : m.below size = true) : (m.write a b).below size = true := by
  induction m with
  | nil => exact Memory.cons_below a size b [] ha rfl
  | cons c rest ih =>
    obtain ⟨a', b'⟩ := c
    have hm' := hm
    simp only [Memory.below, List.all_cons, Bool.and_eq_true, decide_eq_true_eq] at hm
    unfold Memory.write
    split
    · exact Memory.cons_below a size b _ ha hm'
    · split
      · exact Memory.cons_below a size b _ ha hm.2
      · simp only [Memory.below, List.all_cons, Bool.and_eq_true, decide_eq_true_eq]
        exact ⟨hm.1, ih hm.2⟩

/-- A write of a string that ends inside the size stays below it. -/
theorem Memory.writeBytes_below (m : Memory) (a size : Nat) (bs : List Byte) (ha : a + bs.length ≤ size)
    (hm : m.below size = true) : (m.writeBytes a bs).below size = true := by
  induction bs generalizing m a with
  | nil => exact hm
  | cons b bs ih =>
    rw [List.length_cons] at ha
    exact ih _ _ (by omega) (Memory.write_below m a size b (by omega) hm)

@[simp] theorem Memory.length_readBytes (m : Memory) (a n : Nat) : (m.readBytes a n).length = n := by
  simp [Memory.readBytes]

theorem Memory.getD_readBytes (m : Memory) (a n i : Nat) (hi : i < n) :
    (m.readBytes a n).getD i 0#8 = m.read (a + i) := by
  simp [Memory.readBytes, List.getD, hi]

/-- The stores at reset are canonical. -/
theorem Memory.nil_wf : Memory.wf [] = true := rfl

end Sys2Proof.Machine
end

