-- ==== Sys2Proof/Laws/Ops.lean ====
section
/-! SUPPORT. For each shared operation, one lemma that says everything it can do, which later proofs cite in
place of its definition. -/

namespace Sys2Proof.Machine

variable {s t : State}

/-- A write to the working buffer is inside it, and changes it alone. -/
theorem State.writeWbuf_ok {i : Nat} {b : Byte} (h : s.writeWbuf i b = .ok t) :
    i < s.cfg.maxFrame ∧ t = { s with wbuf := s.wbuf.write i b } := by
  unfold State.writeWbuf at h
  split at h
  · next hi => exact ⟨hi, (Except.ok.inj h).symm⟩
  · cases h

/-- A write inside the working buffer succeeds. -/
theorem State.writeWbuf_inside {i : Nat} (b : Byte) (h : i < s.cfg.maxFrame) :
    s.writeWbuf i b = .ok { s with wbuf := s.wbuf.write i b } := if_pos h

/-- SlotWrite writes the bytes of the frame from the base of an existing slot on, and its `updated` flag. -/
theorem State.slotWrite_ok {k : Nat} {bytes : List Byte} (h : s.slotWrite k bytes = .ok t) :
    k < s.cfg.n ∧ s.cfg.base k + bytes.length ≤ s.cfg.arenaSize ∧
      t = { s with arena := s.arena.writeBytes (s.cfg.base k) bytes }.markUpdated k := by
  unfold State.slotWrite at h
  split at h
  · next hk =>
    split at h
    · next ha => exact ⟨hk, ha, (Except.ok.inj h).symm⟩
    · cases h
  · cases h

/-- SlotWrite of bytes that fit the arena succeeds. -/
theorem State.slotWrite_inside {k : Nat} {bytes : List Byte} (hk : k < s.cfg.n)
    (ha : s.cfg.base k + bytes.length ≤ s.cfg.arenaSize) :
    s.slotWrite k bytes = .ok ({ s with arena := s.arena.writeBytes (s.cfg.base k) bytes }.markUpdated k) := by
  simp [State.slotWrite, hk, ha]

/-- A read of a slot's byte that succeeds is inside the arena and gives the byte there. -/
theorem State.readSlotByte_ok {k i : Nat} {b : Byte} (h : s.readSlotByte k i = .ok b) :
    k < s.cfg.n ∧ s.cfg.base k + i < s.cfg.arenaSize ∧ b = s.slotByte k i := by
  unfold State.readSlotByte at h
  split at h
  · next hk =>
    split at h
    · next ha => exact ⟨hk, ha, (Except.ok.inj h).symm⟩
    · cases h
  · cases h

/-- The trim takes off bytes 0x00 only, and stops at a byte that is not 0x00 or at nothing. -/
theorem State.trimZeros_spec (s : State) (k m : Nat) :
    s.trimZeros k m ≤ m ∧ (∀ i, s.trimZeros k m ≤ i → i < m → s.slotByte k i = 0#8) ∧
      (s.trimZeros k m = 0 ∨ s.slotByte k (s.trimZeros k m - 1) ≠ 0#8) := by
  induction m with
  | zero => exact ⟨Nat.le_refl 0, fun i _ hi => absurd hi (Nat.not_lt_zero i), .inl rfl⟩
  | succ m ih =>
    unfold State.trimZeros
    split
    · next hz =>
      refine ⟨by omega, fun i h1 h2 => ?_, ih.2.2⟩
      by_cases hi : i = m
      · rw [hi]; exact hz
      · exact ih.2.1 i h1 (by omega)
    · next hz => exact ⟨Nat.le_refl _, fun i h1 h2 => absurd h2 (by omega), .inr hz⟩

/-- What the trim gives, where it succeeds. -/
theorem State.trim_ok {k r : Nat} (h : s.trim k = .ok r) :
    k < s.cfg.n ∧ s.cfg.base k + s.declaredSize k ≤ s.cfg.arenaSize ∧ r = s.trimZeros k (s.declaredSize k) := by
  unfold State.trim at h
  split at h
  · next hk =>
    split at h
    · next ha => exact ⟨hk, ha.2, (Except.ok.inj h).symm⟩
    · cases h
  · cases h

/-- A lap examines slots of the table only. -/
theorem mem_lapOrder {n start k : Nat} (h : k ∈ lapOrder n start) : k < n := by
  simp only [lapOrder, List.mem_map, List.mem_range] at h
  obtain ⟨j, hj, rfl⟩ := h
  exact Nat.mod_lt _ (by omega)

/-- A lap examines every slot of the table. -/
theorem mem_lapOrder_of_lt {n start k : Nat} (hs : start < n) (h : k < n) : k ∈ lapOrder n start := by
  simp only [lapOrder, List.mem_map, List.mem_range]
  by_cases hk : start < k
  · exact ⟨k - start - 1, by omega, by rw [show start + 1 + (k - start - 1) = k by omega]; exact Nat.mod_eq_of_lt h⟩
  · refine ⟨n + k - start - 1, by omega, ?_⟩
    rw [show start + 1 + (n + k - start - 1) = k + n by omega, Nat.add_mod_right]
    exact Nat.mod_eq_of_lt h

/-- The slot the lap stops at is an updated slot of the table. -/
theorem State.lap_some {k : Nat} (h : s.lap = some k) : k < s.cfg.n ∧ s.updatedAt k = true :=
  ⟨mem_lapOrder (List.mem_of_find?_eq_some h), List.find?_some h⟩

/-- A lap that finds nothing: no slot is updated. -/
theorem State.lap_none (hc : s.cursor.toNat < s.cfg.n) (h : s.lap = none) {k : Nat} (hk : k < s.cfg.n) :
    s.updatedAt k = false := by
  have := List.find?_eq_none.mp h k (mem_lapOrder_of_lt hc hk)
  simpa using this

/-- What storing or dropping a frame can do. -/
theorem State.applyStorage_cases {f : Frame} {d : Storage} {route : Route}
    (h : s.applyStorage f d = .ok (t, route)) :
    (d = .drop route ∧ t = s) ∨ ∃ k, d = .store k ∧ route = .slot k ∧ s.slotWrite k f.bytes = .ok t := by
  unfold State.applyStorage at h
  split at h
  · next r => cases h; exact .inl ⟨rfl, rfl⟩
  · next k =>
    split at h
    · next s' hw => cases h; exact .inr ⟨k, rfl, rfl, hw⟩
    · cases h

/-- What the classifier can do with a frame: drop it for want of a type, set a latch, or go on to the MSP feed
and the storage rules (R171). -/
theorem classify_cases {f : Frame} {route : Route} (h : classify s f = .ok (t, route)) :
    (f.field 2 = none ∧ t = s ∧ route = .dShort) ∨
    (∃ ty ctl, f.field 2 = some ty ∧ controlOf s.cfg f ty = some ctl ∧ t = s.applyControl ctl ∧
      route = ctl.route) ∨
    (∃ ty, f.field 2 = some ty ∧ controlOf s.cfg f ty = none ∧
      (s.forwardMsp f ty).applyStorage f (storageOf s f ty) = .ok (t, route)) := by
  unfold classify at h
  split at h
  · next h2 => cases h; exact .inl ⟨h2, rfl, rfl⟩
  · next ty h2 =>
    split at h
    · next ctl hc => cases h; exact .inr (.inl ⟨ty, ctl, h2, hc, rfl, rfl⟩)
    · next hc => exact .inr (.inr ⟨ty, h2, hc, h⟩)

/-- What selecting a slot can do: no payload, or a view of its trimmed frame. -/
theorem State.selectSlot_cases {k : Nat} (h : s.selectSlot k = .ok t) :
    ∃ r, (s.lockSlot k).trim k = .ok r ∧
      ((r = 0 ∧ t = (s.lockSlot k).noPayload) ∨ (0 < r ∧ t = (s.lockSlot k).present k r)) := by
  unfold State.selectSlot at h
  split at h
  · cases h
  · next hr => exact ⟨0, hr, .inl ⟨rfl, (Except.ok.inj h).symm⟩⟩
  · next r hr => exact ⟨r + 1, hr, .inr ⟨Nat.succ_pos r, (Except.ok.inj h).symm⟩⟩

/-- What NEXT_PAYLOAD can do after its release. -/
theorem State.advance_cases (h : s.advance = .ok t) :
    (s.lap = none ∧ t = s.noPayload) ∨ ∃ k, s.lap = some k ∧ s.selectSlot k = .ok t := by
  unfold State.advance at h
  split at h
  · next hl => exact .inl ⟨hl, (Except.ok.inj h).symm⟩
  · next k hl => exact .inr ⟨k, hl, h⟩

/-- A meaning that ends in a next state ended in it before it was made an outcome. -/
theorem outcome_next {r : Except Fault State} (h : outcome r = .next t) : r = .ok t := by
  cases r with
  | ok s' => exact congrArg Except.ok (Host.Outcome.next.inj h)
  | error e => cases h

/-- What the byte that completes a frame can do. -/
theorem completeFrame_cases {b : Byte} (h : completeFrame b s = .ok t) :
    s.wbufFrame.size ≤ s.cfg.maxFrame ∧
      ((b = frameCrc s.cfg s.wbufFrame ∧ ∃ s' route, classify s s.wbufFrame = .ok (s', route) ∧
          t = s'.countFrame.respond .ok true true route 0#32) ∨
        (b ≠ frameCrc s.cfg s.wbufFrame ∧ t = s.reportError .eCrc)) := by
  unfold completeFrame at h
  simp only at h
  split at h
  · next hf =>
    refine ⟨hf, ?_⟩
    split at h
    · next hb =>
      split at h
      · next s' route hc => exact .inl ⟨hb, s', route, hc, (Except.ok.inj h).symm⟩
      · cases h
    · next hb => exact .inr ⟨hb, (Except.ok.inj h).symm⟩
  · cases h

/-- What FEED in RX_DATA can do. -/
theorem feedData_cases {b : Byte} (h : feedData b s = .ok t) :
    2 + s.cnt.toNat < s.cfg.maxFrame ∧
      ((s.cnt + 1#8 = (s.wbuf.write (2 + s.cnt.toNat) b).read 1 ∧
          completeFrame b { s with wbuf := s.wbuf.write (2 + s.cnt.toNat) b, cnt := s.cnt + 1#8, fsm := .idle } =
            .ok t) ∨
        (s.cnt + 1#8 ≠ (s.wbuf.write (2 + s.cnt.toNat) b).read 1 ∧
          t = State.respondOk
            { s with wbuf := s.wbuf.write (2 + s.cnt.toNat) b, cnt := s.cnt + 1#8 } 0#32)) := by
  unfold feedData at h
  split at h
  · cases h
  · next s' hw =>
    obtain ⟨hi, rfl⟩ := State.writeWbuf_ok hw
    refine ⟨hi, ?_⟩
    simp only at h
    split at h
    · next hc => exact .inl ⟨hc, h⟩
    · next hc => exact .inr ⟨hc, (Except.ok.inj h).symm⟩

/-- What FEED in IDLE can do. -/
theorem feedIdle_cases {b : Byte} (h : feedIdle b s = .ok t) :
    (s.cfg.isSync b = true ∧ t = State.respondOk { s with wbuf := s.wbuf.write 0 b, fsm := .rxLen } 0#32) ∨
      (s.cfg.isSync b = false ∧ t = s.reportError .eSync) := by
  unfold feedIdle at h
  split at h
  · next hb =>
    split at h
    · next s' hw =>
      obtain ⟨-, rfl⟩ := State.writeWbuf_ok hw
      exact .inl ⟨hb, (Except.ok.inj h).symm⟩
    · cases h
  · next hb => exact .inr ⟨by simpa using hb, (Except.ok.inj h).symm⟩

/-- What FEED in RX_LEN can do. -/
theorem feedLength_cases {b : Byte} (h : feedLength b s = .ok t) :
    ((s.cfg.maxLen ≤ b.toNat ∨ b = 0#8) ∧ t = State.reportError { s with fsm := .idle } .eLength) ∨
      (b.toNat < s.cfg.maxLen ∧ b ≠ 0#8 ∧
        t = State.respondOk { s with wbuf := s.wbuf.write 1 b, cnt := 0#8, fsm := .rxData } 0#32) := by
  unfold feedLength at h
  split at h
  · next hb => exact .inl ⟨hb, (Except.ok.inj h).symm⟩
  · next hb =>
    rw [not_or] at hb
    split at h
    · next s' hw =>
      obtain ⟨-, rfl⟩ := State.writeWbuf_ok hw
      exact .inr ⟨by omega, hb.2, (Except.ok.inj h).symm⟩
    · cases h

/-- What a step can do: wait, take the reset input, run a command, or answer an illegal word. -/
theorem step_cases (h : step s = .next t) :
    s.cfg.wf = true ∧
      ((s.inputs = [] ∧ t = s.idle) ∨
        ∃ input rest, s.inputs = input :: rest ∧ acceptInput input { s with inputs := rest } = .next t) := by
  unfold step at h
  split at h
  · next hw =>
    refine ⟨hw, ?_⟩
    split at h
    · next hi => exact .inl ⟨hi, (Host.Outcome.next.inj h).symm⟩
    · next input rest hi => exact .inr ⟨input, rest, hi, h⟩
  · cases h

/-- What accepting an input can do. -/
theorem acceptInput_cases {input : Input} (h : acceptInput input s = .next t) :
    (input = .fullReset ∧ t = s.fullReset) ∨
      (∃ w i, input = .command w ∧ decode w = .ok i ∧ exec i s = .next t) ∨
      (∃ w e, input = .command w ∧ decode w = .error e ∧ t = s.answerIllegal) := by
  cases input with
  | fullReset => exact .inl ⟨rfl, (Host.Outcome.next.inj h).symm⟩
  | command w =>
    simp only [acceptInput, acceptCommand] at h
    split at h
    · next i hd => exact .inr (.inl ⟨w, i, rfl, hd, h⟩)
    · next e hd => exact .inr (.inr ⟨w, e, rfl, hd, (Host.Outcome.next.inj h).symm⟩)

end Sys2Proof.Machine
end

