-- ==== Sys2Proof/Laws/Commands.lean ====
section
/-! SUPPORT. For each command that has cases (`feed`, `next`, `rdtx`), one lemma that says everything it can do when it
answers a next state, and what the classifier and the release leave; later proofs cite these in place of the
definitions. -/

namespace Sys2Proof.Machine

variable {s t : State}

/-- The state the classifier starts from: `b` appended and counted, the framer back in IDLE (R144). -/
def State.completed (s : State) (b : Byte) : State :=
  { s with wbuf := s.wbuf.write (2 + s.cnt.toNat) b, cnt := s.cnt + 1#8, fsm := .idle }

/-- What FEED can do (R140). -/
inductive FeedCase (b : Byte) (s t : State) : Prop
  | sync : s.fsm = .idle → s.cfg.isSync b = true →
      t = State.respondOk { s with wbuf := s.wbuf.write 0 b, fsm := .rxLen } 0#32 → FeedCase b s t
  | notSync : s.fsm = .idle → s.cfg.isSync b = false → t = s.reportError .eSync → FeedCase b s t
  | length : s.fsm = .rxLen → b.toNat < s.cfg.maxLen → b ≠ 0#8 →
      t = State.respondOk { s with wbuf := s.wbuf.write 1 b, cnt := 0#8, fsm := .rxData } 0#32 → FeedCase b s t
  | badLength : s.fsm = .rxLen → (s.cfg.maxLen ≤ b.toNat ∨ b = 0#8) →
      t = State.reportError { s with fsm := .idle } .eLength → FeedCase b s t
  | data : s.fsm = .rxData → 2 + s.cnt.toNat < s.cfg.maxFrame → ¬ completes b s →
      t = State.respondOk { s with wbuf := s.wbuf.write (2 + s.cnt.toNat) b, cnt := s.cnt + 1#8 } 0#32 →
      FeedCase b s t
  | badCrc : completes b s → 2 + s.cnt.toNat < s.cfg.maxFrame → ¬ completesValid b s →
      t = (s.completed b).reportError .eCrc → FeedCase b s t
  | valid (s' : State) (route : Route) : completesValid b s → 2 + s.cnt.toNat < s.cfg.maxFrame →
      (completedFrame b s).size ≤ s.cfg.maxFrame →
      classify (s.completed b) (completedFrame b s) = .ok (s', route) →
      t = s'.countFrame.respond .ok true true route 0#32 → FeedCase b s t

theorem exec_feed_cases {b : Byte} (h : exec (.feed b) s = .next t) : FeedCase b s t := by
  cases hf : s.fsm with
  | idle =>
    simp only [exec, execFeed, hf] at h
    rcases feedIdle_cases (outcome_next h) with ⟨h1, h2⟩ | ⟨h1, h2⟩
    · exact .sync hf h1 h2
    · exact .notSync hf h1 h2
  | rxLen =>
    simp only [exec, execFeed, hf] at h
    rcases feedLength_cases (outcome_next h) with ⟨h1, h2⟩ | ⟨h1, h2, h3⟩
    · exact .badLength hf h1 h2
    · exact .length hf h1 h2 h3
  | rxData =>
    simp only [exec, execFeed, hf] at h
    obtain ⟨hi, ⟨hc, h⟩ | ⟨hc, h⟩⟩ := feedData_cases (outcome_next h)
    · have hco : completes b s := ⟨hf, hc⟩
      obtain ⟨hsz, ⟨hb, s', route, hcl, ht⟩ | ⟨hb, ht⟩⟩ := completeFrame_cases h
      · exact .valid s' route ⟨hco, hb⟩ hi hsz hcl ht
      · exact .badCrc hco hi (fun hv => hb hv.2) ht
    · exact .data hf hi (fun hco => hc hco.2) h

/-- What NEXT_PAYLOAD can do after its release (R220). -/
inductive NextCase (s t : State) : Prop
  | nothing : s.releaseCursor.lap = none → t = s.releaseCursor.noPayload → NextCase s t
  | zero (k : Nat) : s.releaseCursor.lap = some k → (s.releaseCursor.lockSlot k).trim k = .ok 0 →
      t = (s.releaseCursor.lockSlot k).noPayload → NextCase s t
  | view (k r : Nat) : s.releaseCursor.lap = some k → (s.releaseCursor.lockSlot k).trim k = .ok r → 0 < r →
      t = (s.releaseCursor.lockSlot k).present k r → NextCase s t

theorem exec_next_cases (h : exec .next s = .next t) : NextCase s t := by
  have h : s.releaseCursor.advance = .ok t := outcome_next (show outcome s.releaseCursor.advance = .next t from h)
  rcases State.advance_cases h with ⟨h1, h2⟩ | ⟨k, h1, h2⟩
  · exact .nothing h1 h2
  · obtain ⟨r, hr, ⟨rfl, ht⟩ | ⟨h0, ht⟩⟩ := State.selectSlot_cases h2
    · exact .zero k h1 hr ht
    · exact .view k r h1 hr h0 ht

/-- What READ_TX can do (R230). -/
theorem exec_rdtx_cases {i : Byte} (h : exec (.rdtx i) s = .next t) :
    ((s.txValid = false ∨ s.txLen.toNat ≤ i.toNat) ∧ t = s.reportError .eRange) ∨
      (¬ (s.txValid = false ∨ s.txLen.toNat ≤ i.toNat) ∧
        ((i.toNat = 1 ∧ t = s.respondOk (zextByte (BitVec.ofNat 8 ((s.txLen.toNat - 2) % 256)))) ∨
          (i.toNat ≠ 1 ∧ t = s.respondOk (zextByte (s.slotByte s.txSlot.toNat i.toNat))))) := by
  change execRdtx i s = _ at h
  unfold execRdtx at h
  split at h
  · next hr => exact .inl ⟨hr, (Host.Outcome.next.inj h).symm⟩
  · next hr =>
    refine .inr ⟨hr, ?_⟩
    have h := outcome_next h
    unfold State.readView at h
    split at h
    · next h1 => exact .inl ⟨h1, (Except.ok.inj h).symm⟩
    · next h1 =>
      split at h
      · next b hb =>
        obtain ⟨-, -, rfl⟩ := State.readSlotByte_ok hb
        exact .inr ⟨h1, (Except.ok.inj h).symm⟩
      · cases h

/-- What the classifier never writes, and that it clears no flag and no latch (R170). -/
structure ClassifierKept (s t : State) : Prop where
  cfg : t.cfg = s.cfg
  fsm : t.fsm = s.fsm
  cnt : t.cnt = s.cnt
  wbuf : t.wbuf = s.wbuf
  rxCount : t.rxCount = s.rxCount
  locked : t.locked = s.locked
  cursor : t.cursor = s.cursor
  txValid : t.txValid = s.txValid
  txSlot : t.txSlot = s.txSlot
  txLen : t.txLen = s.txLen
  inputs : t.inputs = s.inputs
  updated : ∀ k, s.updatedAt k = true → t.updatedAt k = true
  boot : t.latchBoot = s.latchBoot ∨ t.latchBoot = true
  bind : t.latchBind = s.latchBind ∨ t.latchBind = true
  mm : t.latchMm = s.latchMm ∨ t.latchMm = true
  ping : t.latchPing = s.latchPing ∨ t.latchPing = true
  mmId : t.mmId = s.mmId ∨ t.latchMm = true

theorem ClassifierKept.refl (s : State) : ClassifierKept s s :=
  ⟨rfl, rfl, rfl, rfl, rfl, rfl, rfl, rfl, rfl, rfl, rfl, fun _ h => h, .inl rfl, .inl rfl, .inl rfl, .inl rfl,
    .inl rfl⟩

theorem State.forwardMsp_kept (s : State) (f : Frame) (ty : Byte) : ClassifierKept s (s.forwardMsp f ty) := by
  unfold State.forwardMsp
  split
  · exact { ClassifierKept.refl s with }
  · exact ClassifierKept.refl s

theorem classify_kept {f : Frame} {route : Route} (h : classify s f = .ok (t, route)) : ClassifierKept s t := by
  rcases classify_cases h with ⟨-, rfl, -⟩ | ⟨ty, ctl, -, -, rfl, -⟩ | ⟨ty, -, -, h⟩
  · exact ClassifierKept.refl t
  · have hr := ClassifierKept.refl s
    cases ctl with
    | boot => exact { hr with boot := .inr rfl }
    | bind => exact { hr with bind := .inr rfl }
    | mm id => exact { hr with mm := .inr rfl, mmId := .inr rfl }
    | ping => exact { hr with ping := .inr rfl }
  · have hk := State.forwardMsp_kept s f ty
    rcases State.applyStorage_cases h with ⟨-, rfl⟩ | ⟨k, -, -, hw⟩
    · exact hk
    · obtain ⟨-, -, rfl⟩ := State.slotWrite_ok hw
      refine { hk with updated := fun j hj => ?_ }
      rw [State.markUpdated_updatedAt]
      split
      · rfl
      · exact hk.updated j hj

/-- The release writes slot flags only (R221). -/
theorem State.releaseCursor_kept (s : State) : s.releaseCursor = { s with
    updated := s.releaseCursor.updated, locked := s.releaseCursor.locked } := by
  unfold State.releaseCursor
  split <;> rfl

/-- `updated` after the release: cleared for a locked slot under the cursor. -/
theorem State.releaseCursor_updatedAt (hu : s.cursor.toNat < s.updated.length) (k : Nat) :
    s.releaseCursor.updatedAt k =
      if k = s.cursor.toNat ∧ s.lockedAt k = true then false else s.updatedAt k := by
  unfold State.releaseCursor
  split
  · next h =>
    rw [State.releaseSlot_updatedAt]
    by_cases hk : k = s.cursor.toNat
    · subst hk
      rw [if_pos ⟨rfl, hu⟩, if_pos ⟨rfl, h⟩]
    · rw [if_neg (fun h => hk h.1), if_neg (fun h => hk h.1)]
  · next h =>
    rw [if_neg]
    rintro ⟨rfl, h2⟩
    exact h h2

/-- `locked` after the release: cleared for the slot under the cursor. -/
theorem State.releaseCursor_lockedAt (hl : s.cursor.toNat < s.locked.length) (k : Nat) :
    s.releaseCursor.lockedAt k = if k = s.cursor.toNat then false else s.lockedAt k := by
  unfold State.releaseCursor
  split
  · next h =>
    rw [State.releaseSlot_lockedAt]
    by_cases hk : k = s.cursor.toNat
    · subst hk
      rw [if_pos ⟨rfl, hl⟩, if_pos rfl]
    · rw [if_neg (fun h => hk h.1), if_neg hk]
  · next h =>
    split
    · next hk => subst hk; simpa using h
    · rfl

end Sys2Proof.Machine
end

