-- ==== Sys2Proof/Laws/Good.lean ====
section
/-! SUPPORT. A check that decides `GoodState` on a concrete state, so that a test can show a state that meets the
hypotheses of a statement. -/

namespace Sys2Proof.Machine

/-- The ranges of R30, as one check. -/
def State.rangesCheck (s : State) : Bool :=
  s.cfg.wf && decide (s.updated.length = s.cfg.n) && decide (s.locked.length = s.cfg.n) &&
    decide (s.cursor.toNat < s.cfg.n) && decide (s.rxCount < 2 ^ s.cfg.cntW) && s.wbuf.wf &&
    s.wbuf.below s.cfg.maxFrame && s.arena.wf && s.arena.below s.cfg.arenaSize

/-- The framer's invariants (R151), as one check. -/
def State.framerCheck (s : State) : Bool :=
  (s.fsm != .rxData || decide (1 ≤ (s.wbuf.read 1).toNat) && decide ((s.wbuf.read 1).toNat ≤ s.cfg.maxLen - 1) &&
    decide (s.cnt.toNat < (s.wbuf.read 1).toNat)) &&
  (s.fsm == .idle || s.cfg.isSync (s.wbuf.read 0))

/-- The invariants of one slot, as one check. -/
def State.slotCheck (s : State) (k : Nat) : Bool :=
  (!s.lockedAt k || s.updatedAt k && s.txValid && decide (k = s.txSlot.toNat)) &&
  (!s.updatedAt k || decide (2 ≤ (s.slotByte k 1).toNat) && decide (s.declaredSize k ≤ s.cfg.cap k) &&
    decide (s.declaredSize k ≤ s.cfg.maxFrame))

/-- The invariants of the view, as one check. -/
def State.viewCheck (s : State) : Bool :=
  !s.txValid || s.txSlot == s.cursor && s.lockedAt s.txSlot.toNat && decide (2 ≤ s.txLen.toNat) &&
    decide (s.txLen.toNat ≤ s.cfg.cap s.txSlot.toNat) && decide (s.txLen.toNat ≤ s.cfg.maxFrame)

/-- All of `GoodState`, as one check. -/
def State.goodCheck (s : State) : Bool :=
  s.rangesCheck && s.framerCheck && (List.range s.cfg.n).all s.slotCheck && s.viewCheck

theorem State.ranges_of_check {s : State} (h : s.rangesCheck = true) : RangesOk s := by
  simp only [State.rangesCheck, Bool.and_eq_true, decide_eq_true_eq] at h
  obtain ⟨⟨⟨⟨⟨⟨⟨⟨h1, h2⟩, h3⟩, h4⟩, h5⟩, h6⟩, h7⟩, h8⟩, h9⟩ := h
  exact ⟨h1, h2, h3, h4, h5, h6, h7, h8, h9⟩

theorem State.framer_of_check {s : State} (h : s.framerCheck = true) : FramerOk s := by
  simp only [State.framerCheck, Bool.and_eq_true, Bool.or_eq_true, bne_iff_ne, beq_iff_eq, decide_eq_true_eq] at h
  obtain ⟨h1, h2⟩ := h
  exact ⟨fun hf => (h1.resolve_left (fun hn => hn hf)).1, fun hf => (h1.resolve_left (fun hn => hn hf)).2,
    fun hf => h2.resolve_left hf⟩

/-- A state that passes the check is good. -/
theorem State.good_of_check {s : State} (h : s.goodCheck = true) : GoodState s := by
  simp only [State.goodCheck, Bool.and_eq_true, List.all_eq_true, List.mem_range] at h
  obtain ⟨⟨⟨hr, hf⟩, hs⟩, hv⟩ := h
  have ranges := State.ranges_of_check hr
  have slot : ∀ k, k < s.cfg.n →
      (s.lockedAt k = true → (s.updatedAt k = true ∧ s.txValid = true) ∧ k = s.txSlot.toNat) ∧
      (s.updatedAt k = true → (2 ≤ (s.slotByte k 1).toNat ∧ s.declaredSize k ≤ s.cfg.cap k) ∧
        s.declaredSize k ≤ s.cfg.maxFrame) := by
    intro k hk
    have := hs k hk
    simp only [State.slotCheck, Bool.and_eq_true, Bool.or_eq_true, Bool.not_eq_true', decide_eq_true_eq] at this
    exact ⟨fun hl => this.1.resolve_left (by simp [hl]), fun hu => this.2.resolve_left (by simp [hu])⟩
  have locked : ∀ k, s.lockedAt k = true → k < s.cfg.n := fun k hk => ranges.locked ▸ State.lockedAt_lt s hk
  have updated : ∀ k, s.updatedAt k = true → k < s.cfg.n := fun k hk => ranges.updated ▸ State.updatedAt_lt s hk
  have view : s.txValid = true → (((s.txSlot = s.cursor ∧ s.lockedAt s.txSlot.toNat = true) ∧ 2 ≤ s.txLen.toNat) ∧
      s.txLen.toNat ≤ s.cfg.cap s.txSlot.toNat) ∧ s.txLen.toNat ≤ s.cfg.maxFrame := by
    simp only [State.viewCheck, Bool.and_eq_true, Bool.or_eq_true, Bool.not_eq_true', beq_iff_eq,
      decide_eq_true_eq] at hv
    exact fun ht => hv.resolve_left (by simp [ht])
  refine ⟨ranges, State.framer_of_check hf, ⟨fun k hk => ((slot k (locked k hk)).1 hk).1.1, fun k hk => ?_,
    fun k hk => ⟨((slot k (locked k hk)).1 hk).1.2, ((slot k (locked k hk)).1 hk).2⟩,
    fun ht => (view ht).1.1.1, fun ht => ⟨(view ht).1.1.2, (view ht).1.2, (view ht).2⟩⟩⟩
  have := (slot k (updated k hk)).2 hk
  exact ⟨this.1.1, this.1.2, this.2⟩

end Sys2Proof.Machine
end

