-- ==== Sys2Proof/Laws/PerInstr.lean ====
section
/-! SUPPORT. Statements about every command as syntax, one lemma for each constructor of `Instr`. -/

namespace Sys2Proof.Laws.EncodingShape

/-- R106, R109: the word of a command has `z = 0` and an assigned `op`, and an operand byte other than 0 only with
`op` 0x1 or 0x3. -/
def Statement (i : Instr) : Prop :=
  zField (encode i) = 0#4 ∧ 0x1#4 ≤ opField (encode i) ∧ opField (encode i) ≤ 0xA#4 ∧
    (imm8Field (encode i) ≠ 0#8 → opField (encode i) = 0x1#4 ∨ opField (encode i) = 0x3#4)

theorem feed (b : Byte) : Statement (.feed b) := by
  unfold Statement
  revert b
  decide

theorem rdtx (i : Byte) : Statement (.rdtx i) := by
  unfold Statement
  revert i
  decide

theorem next : Statement .next := by unfold Statement; decide

theorem takeBoot : Statement .takeBoot := by unfold Statement; decide

theorem takeBind : Statement .takeBind := by unfold Statement; decide

theorem takeMm : Statement .takeMm := by unfold Statement; decide

theorem takePing : Statement .takePing := by unfold Statement; decide

theorem cntUpd : Statement .cntUpd := by unfold Statement; decide

theorem cntRx : Statement .cntRx := by unfold Statement; decide

theorem linkrst : Statement .linkrst := by unfold Statement; decide

end Sys2Proof.Laws.EncodingShape
end

