-- ==== Sys2Proof/Tests/Slice0.lean ====
section
/-! SUPPORT. Tests of the model. Expected values are those of the spec: the examples of its rules and the vectors
VF, VC, VS and VX of 95_test_vectors.md, named in the comments. The `witness_` theorems show, for each statement
with hypotheses, states and operands that meet them, at the boundaries of each clause. -/

namespace Sys2Proof.Tests

open Sys2Proof.Machine

/-! ## Helpers: small states, one step -/

/-- In RX_DATA, after the bytes `front` of a frame. -/
def mid (front : List Byte) (s : State) : State :=
  { s with fsm := .rxData, wbuf := s.wbuf.writeBytes 0 front, cnt := BitVec.ofNat 8 (front.length - 2) }

/-- Slot `k` holds an unconsumed frame. -/
def hold (k : Nat) (bytes : List Byte) (s : State) : State :=
  { s with arena := s.arena.writeBytes (s.cfg.base k) bytes, updated := s.updated.set k true }

/-- Slot `k` is presented, `len` bytes of it. -/
def present (k len : Nat) (s : State) : State :=
  { s with
    locked := s.locked.set k true, cursor := BitVec.ofNat 6 k, txValid := true, txSlot := BitVec.ofNat 6 k,
    txLen := BitVec.ofNat 9 len }

/-- The next state of a command, if any. -/
def after (i : Instr) (s : State) : Option State :=
  match exec i s with
  | .next t => some t
  | _ => none

/-- The next state of a step, if any. -/
def stepped (s : State) : Option State :=
  match step s with
  | .next t => some t
  | _ => none

theorem next_of_after {i : Instr} {s : State} {p : State → Bool} (h : (after i s).any p = true) :
    ∃ t, exec i s = .next t ∧ p t = true := by
  unfold after at h
  split at h
  · next t ht => exact ⟨t, ht, h⟩
  · cases h

theorem next_of_stepped {s : State} {p : State → Bool} (h : (stepped s).any p = true) :
    ∃ t, step s = .next t ∧ p t = true := by
  unfold stepped at h
  split at h
  · next t ht => exact ⟨t, ht, h⟩
  · cases h

/-- The response of a command, if it gives one. -/
def rspOf (i : Instr) (s : State) : Option Response := (after i s).bind State.rsp

/-! ## WellFormed: the configurations R7 refuses, one for each check, and the words R109 refuses -/

theorem test_reference_wf : Cfg.reference.wf = true := by decide
theorem test_refuses_slot_count : (Cfg.wf { Cfg.reference with n := 1 }) = false := by decide
theorem test_refuses_std_count : (Cfg.wf { Cfg.reference with n := 6 }) = false := by decide
theorem test_refuses_std_cap :
    (Cfg.wf { Cfg.reference with std := [⟨0x02#8, 0⟩, ⟨0x08#8, 12⟩, ⟨0x21#8, 16⟩] }) = false := by decide
theorem test_refuses_res_cap : (Cfg.wf { Cfg.reference with resCap := 64 }) = false := by decide
theorem test_refuses_small_arena : (Cfg.wf { Cfg.reference with arenaSize := 176 }) = false := by decide
theorem test_refuses_large_arena : (Cfg.wf { Cfg.reference with arenaSize := 4097 }) = false := by decide
theorem test_refuses_offset : (Cfg.wf { Cfg.reference with offOrigin := 2 }) = false := by decide
theorem test_refuses_max_len :
    (Cfg.wf { Cfg.reference with maxLen := 257, resCap := 258, arenaSize := 563 }) = false := by decide
theorem test_refuses_cnt_width : (Cfg.wf { Cfg.reference with cntW := 7 }) = false := by decide
theorem test_illegal_words : CommandWord.illegal 0x0000#16 = true ∧ CommandWord.illegal 0x2001#16 = true ∧
    CommandWord.illegal 0x1100#16 = true ∧ CommandWord.illegal 0xB000#16 = true := by decide

/-! ## Decode: words written out from the fields of R106 and the numbers of R108 -/

theorem test_decode_feed : decode 0b0001_0000_11001000#16 = .ok (.feed 0xC8#8) := by decide
theorem test_decode_next : decode 0b0010_0000_00000000#16 = .ok .next := by decide
theorem test_decode_rdtx : decode 0b0011_0000_00000011#16 = .ok (.rdtx 3#8) := by decide
theorem test_decode_takeBoot : decode 0b0100_0000_00000000#16 = .ok .takeBoot := by decide
theorem test_decode_takeBind : decode 0b0101_0000_00000000#16 = .ok .takeBind := by decide
theorem test_decode_takeMm : decode 0b0110_0000_00000000#16 = .ok .takeMm := by decide
theorem test_decode_takePing : decode 0b0111_0000_00000000#16 = .ok .takePing := by decide
theorem test_decode_cntUpd : decode 0b1000_0000_00000000#16 = .ok .cntUpd := by decide
theorem test_decode_cntRx : decode 0b1001_0000_00000000#16 = .ok .cntRx := by decide
theorem test_decode_linkrst : decode 0b1010_0000_00000000#16 = .ok .linkrst := by decide
/-- The examples of R266, by the reason of each. -/
theorem test_decode_refuses : decode 0x0000#16 = .error .unassignedOp ∧ decode 0x2001#16 = .error .nonzeroImm8 ∧
    decode 0x1100#16 = .error .nonzeroZ ∧ decode 0xB000#16 = .error .unassignedOp := by decide
theorem test_decodeTableWord :
    decodeTableWord 16 0x10C8 = some (.feed 0xC8#8) ∧ decodeTableWord 16 0xF000 = none := by decide
/-- R115(a): the frame of R154. -/
theorem test_assembles_frame :
    asmFrame Cfg.reference 0xC8#8 0x21#8 [0x62#8, 0x6C#8] =
      asmBytes [0xC8#8, 0x04#8, 0x21#8, 0x62#8, 0x6C#8, 0x43#8] := by decide +kernel
/-- R114: `feed 'b' ; text`. -/
theorem test_assembles_line :
    assembleLine Cfg.reference ['f', 'e', 'e', 'd', ' ', '\'', 'b', '\'', ' ', ';', ' ', 't'] =
      some [0x1062#16] := by decide
/-- P4, step 23: an illegal word, by `.word` (log 17). -/
theorem test_assembles_raw_word :
    assembleLine Cfg.reference ['.', 'w', 'o', 'r', 'd', ' ', '0', 'x', '2', '0', '0', '1'] = some [0x2001#16] := by
  decide
/-- The check value of the reference CRC (R6): ASCII "123456789" gives 0xBC. -/
theorem test_crc_check_value :
    Cfg.reference.crc8 [0x31#8, 0x32#8, 0x33#8, 0x34#8, 0x35#8, 0x36#8, 0x37#8, 0x38#8, 0x39#8] 9 = 0xBC#8 := by
  decide +kernel

/-! ## Small states -/

/-- `C8 04 21 62 6C`, one byte short of R154's frame. -/
def midBoot : State := mid [0xC8#8, 0x04#8, 0x21#8, 0x62#8, 0x6C#8] State.reset
/-- `C8 04 21 62 64`, of VC2. -/
def midBind : State := mid [0xC8#8, 0x04#8, 0x21#8, 0x62#8, 0x64#8] State.reset
/-- `C8 05 21 6D 6D 07`, of VC3. -/
def midMm : State := mid [0xC8#8, 0x05#8, 0x21#8, 0x6D#8, 0x6D#8, 0x07#8] State.reset
/-- `C8 04 21 6D 6D`, of VC4: no id byte. -/
def midMmNoId : State := mid [0xC8#8, 0x04#8, 0x21#8, 0x6D#8, 0x6D#8] State.reset
/-- `C8 04 28 EC C8`, of VC7. -/
def midPing : State := mid [0xC8#8, 0x04#8, 0x28#8, 0xEC#8, 0xC8#8] State.reset
/-- `C8 01`, of VC34. -/
def midShort : State := mid [0xC8#8, 0x01#8] State.reset
/-- `C8 04 80 F1 43`, of VC18, in the state `s`. -/
def midStatus (s : State) : State := mid [0xC8#8, 0x04#8, 0x80#8, 0xF1#8, 0x43#8] s
/-- `C8 04 80 01 44`, of VC19, in the state `s`. -/
def midVendor (s : State) : State := mid [0xC8#8, 0x04#8, 0x80#8, 0x01#8, 0x44#8] s
/-- `C8 02 80`, of VC20. -/
def midVendorShort : State := mid [0xC8#8, 0x02#8, 0x80#8] State.reset
/-- `C8 04 29 C8 05`, of VC21. -/
def midFc : State := mid [0xC8#8, 0x04#8, 0x29#8, 0xC8#8, 0x05#8] State.reset
/-- `C8 04 29 EE 01`, of VC23. -/
def midOther : State := mid [0xC8#8, 0x04#8, 0x29#8, 0xEE#8, 0x01#8] State.reset
/-- `C8 02 29`, of VC24. -/
def midExtShort : State := mid [0xC8#8, 0x02#8, 0x29#8] State.reset
/-- `C8 05 7B C8 33 03`, of VC13, in the state `s`. -/
def midMsp (s : State) : State := mid [0xC8#8, 0x05#8, 0x7B#8, 0xC8#8, 0x33#8, 0x03#8] s
/-- `C8 05 02 09 08 07`, of VC31, in the state `s`. -/
def midStd (s : State) : State := mid [0xC8#8, 0x05#8, 0x02#8, 0x09#8, 0x08#8, 0x07#8] s
/-- VC26 without its last byte: 19 bytes, the capacity of slot 0. -/
def midFull : State := mid ([0xC8#8, 0x11#8, 0x02#8] ++ List.replicate 15 0x01#8) State.reset
/-- VC27 without its last byte: 20 bytes, one more than the capacity of slot 0. -/
def midOver : State := mid ([0xC8#8, 0x12#8, 0x02#8] ++ List.replicate 16 0x01#8) State.reset
/-- `C8 04 10 01 02`, of VC30. -/
def midNoMatch : State := mid [0xC8#8, 0x04#8, 0x10#8, 0x01#8, 0x02#8] State.reset
/-- VF11 without its last byte: the largest frame, 65 bytes. -/
def midLargest : State := mid ([0xC8#8, 0x3F#8, 0x29#8, 0xEE#8] ++ List.replicate 60 0x55#8) State.reset

/-- Slot 3 holds `C8 05 7B C8 31 01 E9`, the first MSP frame. -/
def msp3 : State := hold 3 [0xC8#8, 0x05#8, 0x7B#8, 0xC8#8, 0x31#8, 0x01#8, 0xE9#8] State.reset
/-- Slots 3 and 4 hold the first two MSP frames. -/
def msp34 : State := hold 4 [0xC8#8, 0x05#8, 0x7B#8, 0xC8#8, 0x32#8, 0x02#8, 0x5E#8] msp3
/-- Slot 0 holds `C8 07 02 01 02 03 04 05 8E`. -/
def std0 : State := hold 0 [0xC8#8, 0x07#8, 0x02#8, 0x01#8, 0x02#8, 0x03#8, 0x04#8, 0x05#8, 0x8E#8] State.reset
/-- Slot 0 is presented, as after `next` in VC31. -/
def std0Shown : State := present 0 9 std0
/-- Slot 3 is presented, as after `next` in VS3. -/
def msp3Shown : State := present 3 7 msp3
/-- Slot 4 holds and presents the status text `C8 05 80 F1 41 42 09`, as in example E4. -/
def status4Shown : State :=
  present 4 7 (hold 4 [0xC8#8, 0x05#8, 0x80#8, 0xF1#8, 0x41#8, 0x42#8, 0x09#8] State.reset)
/-- The zero-CRC frame `C8 06 02 01 C3 00 00 00` of VS6 in slot 0. -/
def zeroCrc : State :=
  hold 0 [0xC8#8, 0x06#8, 0x02#8, 0x01#8, 0xC3#8, 0x00#8, 0x00#8, 0x00#8] State.reset
/-- A state no run reaches: slot 1 updated with nothing in it. -/
def hollow : State := hold 1 [] State.reset

/-! ## One step -/

/-- VC1 and R154. -/
theorem test_feed_boot : (after (.feed 0x43#8) midBoot).map (fun t => (t.rsp, t.latchBoot, t.rxCount, t.fsm)) =
    some (some ⟨0x0#4, true, true, 0x01#8, 0#32⟩, true, 1, .idle) := by decide +kernel
/-- E4: slot 4 is locked, is written all the same, and keeps the stale byte 0x09. -/
theorem test_feed_overwrites_presented : (after (.feed 0xE5#8) (midStatus status4Shown)).map (fun t =>
      (t.rsp, t.arena.readBytes 112 8, t.txLen)) =
    some (some ⟨0x0#4, true, true, 0x44#8, 0#32⟩,
      [0xC8#8, 0x04#8, 0x80#8, 0xF1#8, 0x43#8, 0xE5#8, 0x09#8, 0x00#8], 7#9) := by decide +kernel
/-- VS2. -/
theorem test_next_presents : (after .next msp3).map (fun t => (t.rsp, t.cursor, t.locked, t.txLen)) =
    some (some ⟨0x0#4, true, false, 0x00#8, 0x307#32⟩, 3#6, [false, false, false, true, false], 7#9) := by decide
/-- VS6. -/
theorem test_next_trims : (after .next zeroCrc).map (fun t => (t.rsp, t.txLen)) =
    some (some ⟨0x0#4, true, false, 0x00#8, 0x005#32⟩, 5#9) := by decide
/-- The example of R230: `rdtx 6`. -/
theorem test_rdtx_last : rspOf (.rdtx 6#8) msp3Shown = some ⟨0x0#4, true, false, 0x00#8, 0xE9#32⟩ := by decide
/-- The example of R230: `rdtx 7`. -/
theorem test_rdtx_range : rspOf (.rdtx 7#8) msp3Shown = some ⟨0x5#4, false, false, 0x00#8, 0#32⟩ := by decide
/-- R260: returns true, and clears. -/
theorem test_takeBoot : (after .takeBoot { State.reset with latchBoot := true }).map (fun t => (t.rsp, t.latchBoot)) =
    some (some ⟨0x0#4, true, false, 0x00#8, 1#32⟩, false) := by decide
/-- R261. -/
theorem test_takeBind : (after .takeBind { State.reset with latchBind := true }).map (fun t => (t.rsp, t.latchBind)) =
    some (some ⟨0x0#4, true, false, 0x00#8, 1#32⟩, false) := by decide
/-- The example of R262. -/
theorem test_takeMm : (after .takeMm { State.reset with latchMm := true, mmId := 0x07#8 }).map (fun t =>
      (t.rsp, t.latchMm, t.mmId)) =
    some (some ⟨0x0#4, true, false, 0x00#8, 0x107#32⟩, false, 0x07#8) := by decide
/-- R262: no pending update. -/
theorem test_takeMm_none : rspOf .takeMm { State.reset with mmId := 0x07#8 } =
    some ⟨0x0#4, false, false, 0x00#8, 0#32⟩ := by decide
/-- R263. -/
theorem test_takePing : (after .takePing { State.reset with latchPing := true }).map (fun t => (t.rsp, t.latchPing)) =
    some (some ⟨0x0#4, true, false, 0x00#8, 1#32⟩, false) := by decide
/-- The example of R233. -/
theorem test_cntUpd : rspOf .cntUpd msp34 = some ⟨0x0#4, true, false, 0x00#8, 2#32⟩ := by decide
/-- The example of R234. -/
theorem test_cntRx : rspOf .cntRx { State.reset with rxCount := 1 } = some ⟨0x0#4, true, false, 0x00#8, 1#32⟩ := by
  decide
/-- The example of R265. -/
theorem test_linkrst : (after .linkrst msp34).map (fun t => (t.rsp, t.updatedCount, t.txValid)) =
    some (some ⟨0x0#4, true, false, 0x00#8, 0#32⟩, 0, false) := by decide
/-- R266, and the fetch hook: the word presented first is the one the next step answers. -/
theorem test_step_illegal : (stepped (State.reset.withFetchWord 16 0xB000)).map (fun t => (t.rsp, t.inputs)) =
    some (some ⟨0x6#4, false, false, 0x00#8, 0#32⟩, []) := by decide
/-- R265 through the port. -/
theorem test_step_linkrst : (stepped (msp34.withFetchWord 16 0xA000)).map (fun t => (t.rsp, t.updatedCount)) =
    some (some ⟨0x0#4, true, false, 0x00#8, 0#32⟩, 0) := by decide

/-! ## Witnesses: states and operands that meet the hypotheses of each statement

Each is named after its statement. Statements without hypotheses (`DecodeAndEncodeAgree` and the other equivalences,
and the equations that hold in every state) need none. -/

theorem witness_StepRunsTheDecodedCommand : (State.reset.withFetchWord 16 0x2000).cfg.wf = true ∧
    (State.reset.withFetchWord 16 0x2000).inputs = .command 0x2000#16 :: [] ∧ decode 0x2000#16 = .ok .next := by
  decide

theorem witness_IllegalWordChangesNothing : (State.reset.withFetchWord 16 0xB000).cfg.wf = true ∧
    (State.reset.withFetchWord 16 0xB000).inputs = .command 0xB000#16 :: [] ∧
    CommandWord.illegal 0xB000#16 = true ∧ CommandWord.illegal 0x0FFF#16 = true ∧
    CommandWord.illegal 0xA001#16 = true := by decide

theorem witness_FullResetSetsEveryElement :
    (State.cfg { msp3Shown with inputs := [.fullReset] }).wf = true ∧
      (State.inputs { msp3Shown with inputs := [.fullReset] }) = .fullReset :: [] := by decide

theorem witness_StepWithoutInputWaits : (State.reset.cfg.wf = true ∧ State.reset.inputs = []) ∧
    (State.resetWith { Cfg.reference with n := 1 }).cfg.wf = false := by decide

/-- The bounds of the checks, from inside and from outside. -/
theorem witness_BuildAcceptsExactlyWellFormed :
    Cfg.wf { Cfg.reference with n := 2, std := [], maxLen := 2, resCap := 3, arenaSize := 6 } = true ∧
      Cfg.wf { Cfg.reference with n := 2, std := [], maxLen := 256, resCap := 257, arenaSize := 4096 } = true ∧
      Cfg.wf { Cfg.reference with n := 2, std := [], maxLen := 1, resCap := 3, arenaSize := 6 } = false ∧
      (∀ j ∈ [Cfg.reference.offSub0, Cfg.reference.offSub1, Cfg.reference.offMmid, Cfg.reference.offOrigin,
        Cfg.reference.offPingTarget, Cfg.reference.offVsub], j ≤ 255) ∧
      8 ≤ Cfg.reference.cntW ∧ Cfg.reference.cntW ≤ 64 := by decide

theorem witness_SlotsPartitionTheArena : Cfg.reference.wf = true ∧ 3 + 1 < Cfg.reference.n ∧ 0 < 4 ∧
    4 < Cfg.reference.n := by decide

theorem witness_ResetStateIsGood : Cfg.reference.wf = true ∧ State.reset.goodCheck = true := by decide

/-- Also for `ConfigurationIsConstant`, whose one hypothesis is the step. -/
theorem witness_EveryStepKeepsGoodState : GoodState (msp34.withFetchWord 16 0x2000) ∧
    ∃ t, step (msp34.withFetchWord 16 0x2000) = .next t ∧ (t.txValid = true) :=
  ⟨State.good_of_check (by decide), next_of_stepped (p := State.txValid) (by decide)⟩

theorem witness_EveryCommandCompletes : GoodState State.reset ∧ GoodState msp3Shown ∧ GoodState midLargest ∧
    GoodState std0Shown ∧ GoodState zeroCrc :=
  ⟨State.good_of_check (by decide), State.good_of_check (by decide), State.good_of_check (by decide),
    State.good_of_check (by decide), State.good_of_check (by decide)⟩

/-- A locked slot, updated, and a step from there. -/
theorem witness_LockedImpliesUpdated : (msp3Shown.lockedAt 3 = true ∧ msp3Shown.updatedAt 3 = true) ∧
    ∃ t, step (msp3Shown.withFetchWord 16 0x8000) = .next t ∧ t.lockedAt 3 = true :=
  ⟨by decide, next_of_stepped (p := fun t => t.lockedAt 3) (by decide)⟩

/-- RX_DATA, with the largest declared length, and a step from there. -/
theorem witness_FramerInvariantKept : midLargest.wbuf.wf = true ∧ FramerOk midLargest ∧ midLargest.fsm = .rxData ∧
    ∃ t, step (midLargest.withFetchWord 16 0x8000) = .next t ∧ (t.fsm == .rxData) = true :=
  ⟨by decide, State.framer_of_check (by decide), by decide, next_of_stepped (p := fun t => t.fsm == .rxData) (by decide)⟩

theorem witness_CanonicalStoresAreExtensional : Memory.wf [(3, 0xC8#8), (7, 0x01#8)] = true := by decide

/-- Both clauses: the two sync values, and another byte. -/
theorem witness_FeedInIdle : State.reset.fsm = .idle ∧ State.reset.cfg.syncRx = 0xEC#8 ∧
    State.reset.cfg.syncGen = 0xC8#8 ∧ ¬ ((0x00#8 : Byte) = State.reset.cfg.syncRx ∨ 0x00#8 = State.reset.cfg.syncGen) := by
  decide

/-- Both clauses at their bounds: 0, 64 and 255; 1 and 63. -/
theorem witness_FeedInRxLen : (State.fsm { State.reset with fsm := .rxLen }) = .rxLen ∧
    State.reset.cfg.maxLen ≤ (64#8 : Byte).toNat ∧ State.reset.cfg.maxLen ≤ (255#8 : Byte).toNat ∧
    1 ≤ (1#8 : Byte).toNat ∧ (1#8 : Byte).toNat < State.reset.cfg.maxLen ∧
    1 ≤ (63#8 : Byte).toNat ∧ (63#8 : Byte).toNat < State.reset.cfg.maxLen := by decide

/-- With one byte to come after this one, and with 62. -/
theorem witness_FeedAppendsDataByte :
    (GoodState (mid [0xC8#8, 0x02#8] State.reset) ∧ (mid [0xC8#8, 0x02#8] State.reset).fsm = .rxData ∧
      (mid [0xC8#8, 0x02#8] State.reset).cnt.toNat + 1 < ((mid [0xC8#8, 0x02#8] State.reset).wbuf.read 1).toNat) ∧
    (GoodState (mid [0xC8#8, 0x3F#8] State.reset) ∧ (mid [0xC8#8, 0x3F#8] State.reset).fsm = .rxData ∧
      (mid [0xC8#8, 0x3F#8] State.reset).cnt.toNat + 1 < ((mid [0xC8#8, 0x3F#8] State.reset).wbuf.read 1).toNat) :=
  ⟨⟨State.good_of_check (by decide), by decide, by decide⟩, ⟨State.good_of_check (by decide), by decide, by decide⟩⟩

/-- VF9: the last byte is 0x44. -/
theorem witness_CrcMismatchDiscards : GoodState midBoot ∧ midBoot.fsm = .rxData ∧
    midBoot.cnt.toNat + 1 = (midBoot.wbuf.read 1).toNat ∧
    0x44#8 ≠ midBoot.cfg.crc8 ((completedFrame 0x44#8 midBoot).bytes.drop 2) ((midBoot.wbuf.read 1).toNat - 1) :=
  ⟨State.good_of_check (by decide), by decide, by decide, by decide +kernel⟩

/-- VF8, VF10 and VF11: a frame, the shortest and the longest. The first also for `FrameDoneExactlyOnValidFrame`. -/
theorem witness_CrcMatchIsReceived :
    (GoodState midBoot ∧ completesValid 0x43#8 midBoot) ∧ (GoodState midShort ∧ completesValid 0x00#8 midShort) ∧
      (GoodState midLargest ∧ completesValid 0xBC#8 midLargest) :=
  ⟨⟨State.good_of_check (by decide), by unfold completesValid completes; decide +kernel⟩,
    ⟨State.good_of_check (by decide), by unfold completesValid completes; decide +kernel⟩,
    ⟨State.good_of_check (by decide), by unfold completesValid completes; decide +kernel⟩⟩

theorem witness_CompletedFrameIsTheBytesFed : (GoodState midBoot ∧ completes 0x44#8 midBoot) ∧
    (GoodState midShort ∧ completes 0x00#8 midShort) ∧ (GoodState midLargest ∧ completes 0xBC#8 midLargest) :=
  ⟨⟨State.good_of_check (by decide), by unfold completes; decide⟩,
    ⟨State.good_of_check (by decide), by unfold completes; decide⟩,
    ⟨State.good_of_check (by decide), by unfold completes; decide +kernel⟩⟩

/-- A step with the frame-done signal and one without. -/
theorem witness_FrameDoneExactlyOnValidFrame :
    (∃ t, exec (.feed 0x43#8) midBoot = .next t ∧ (t.rsp.any Response.done) = true) ∧
      ∃ t, exec .cntRx midBoot = .next t ∧ (t.rsp.any fun r => !r.done) = true :=
  ⟨next_of_after (p := fun t => t.rsp.any Response.done) (by decide +kernel),
    next_of_after (p := fun t => t.rsp.any fun r => !r.done) (by decide)⟩

/-- A route code other than `RT_NONE`: the last slot's. -/
theorem witness_OnlyListedCodesAreProduced : GoodState midOther ∧
    ∃ t, exec (.feed 0x41#8) midOther = .next t ∧ (t.rsp.any fun r => r.route == 0x44#8) = true :=
  ⟨State.good_of_check (by decide), next_of_after (p := fun t => t.rsp.any fun r => r.route == 0x44#8) (by decide +kernel)⟩

/-- One step for each of the four errors. -/
theorem witness_StateAfterAnError :
    (∃ t, exec (.feed 0x00#8) State.reset = .next t ∧ (t.rsp.any fun r => r.status == 0x1#4) = true) ∧
      (∃ t, exec (.feed 0x40#8) { State.reset with fsm := .rxLen } = .next t ∧
        (t.rsp.any fun r => r.status == 0x2#4) = true) ∧
      (∃ t, exec (.feed 0x44#8) midBoot = .next t ∧ (t.rsp.any fun r => r.status == 0x3#4) = true) ∧
      ∃ t, exec (.rdtx 7#8) msp3Shown = .next t ∧ (t.rsp.any fun r => r.status == 0x5#4) = true :=
  ⟨next_of_after (p := fun t => t.rsp.any fun r => r.status == 0x1#4) (by decide),
    next_of_after (p := fun t => t.rsp.any fun r => r.status == 0x2#4) (by decide),
    next_of_after (p := fun t => t.rsp.any fun r => r.status == 0x3#4) (by decide +kernel),
    next_of_after (p := fun t => t.rsp.any fun r => r.status == 0x5#4) (by decide)⟩

/-- The shortest payload and the longest. -/
theorem witness_WellFormedFrameIsDelivered : GoodState State.reset ∧ State.reset.fsm = .idle ∧
    State.reset.cfg.isSync 0xEC#8 = true ∧ ([] : List Byte).length + 2 < State.reset.cfg.maxLen ∧
    (List.replicate 61 0x55#8).length + 2 < State.reset.cfg.maxLen :=
  ⟨State.good_of_check (by decide), by decide, by decide, by decide, by decide⟩

theorem witness_FrameWithoutTypeIsDropped : GoodState midShort ∧ completesValid 0x00#8 midShort ∧
    (completedFrame 0x00#8 midShort).len < 2 :=
  ⟨State.good_of_check (by decide), by unfold completesValid completes; decide +kernel, by decide⟩

theorem witness_BootloaderFrameSetsItsLatch : GoodState midBoot ∧ completesValid 0x43#8 midBoot ∧
    (completedFrame 0x43#8 midBoot).field 2 = some midBoot.cfg.tCommand ∧
    (completedFrame 0x43#8 midBoot).field midBoot.cfg.offSub0 = some 0x62#8 ∧
    (completedFrame 0x43#8 midBoot).field midBoot.cfg.offSub1 = some 0x6C#8 :=
  ⟨State.good_of_check (by decide), by unfold completesValid completes; decide +kernel, by decide, by decide, by decide⟩

theorem witness_EnterBindFrameSetsItsLatch : GoodState midBind ∧ completesValid 0x6A#8 midBind ∧
    (completedFrame 0x6A#8 midBind).field 2 = some midBind.cfg.tCommand ∧
    (completedFrame 0x6A#8 midBind).field midBind.cfg.offSub0 = some 0x62#8 ∧
    (completedFrame 0x6A#8 midBind).field midBind.cfg.offSub1 = some 0x64#8 :=
  ⟨State.good_of_check (by decide), by unfold completesValid completes; decide +kernel, by decide, by decide, by decide⟩

/-- With the id byte. -/
theorem witness_ModelMatchFrameCapturesItsId : GoodState midMm ∧ completesValid 0xAD#8 midMm ∧
    (completedFrame 0xAD#8 midMm).field 2 = some midMm.cfg.tCommand ∧
    (completedFrame 0xAD#8 midMm).field midMm.cfg.offSub0 = some 0x6D#8 ∧
    (completedFrame 0xAD#8 midMm).field midMm.cfg.offSub1 = some 0x6D#8 ∧
    (completedFrame 0xAD#8 midMm).field midMm.cfg.offMmid = some 0x07#8 :=
  ⟨State.good_of_check (by decide), by unfold completesValid completes; decide +kernel, by decide, by decide, by decide,
    by decide⟩

/-- Without the id byte. -/
theorem witness_ModelMatchFrameCapturesItsId_absent : GoodState midMmNoId ∧ completesValid 0xFF#8 midMmNoId ∧
    (completedFrame 0xFF#8 midMmNoId).field 2 = some midMmNoId.cfg.tCommand ∧
    (completedFrame 0xFF#8 midMmNoId).field midMmNoId.cfg.offSub0 = some 0x6D#8 ∧
    (completedFrame 0xFF#8 midMmNoId).field midMmNoId.cfg.offSub1 = some 0x6D#8 ∧
    (completedFrame 0xFF#8 midMmNoId).field midMmNoId.cfg.offMmid = none ∧
    midMmNoId.cfg.tCommand ≠ midMmNoId.cfg.tDevicePing :=
  ⟨State.good_of_check (by decide), by unfold completesValid completes; decide +kernel, by decide, by decide, by decide,
    by decide, by decide⟩

theorem witness_DevicePingSetsItsLatch : GoodState midPing ∧ completesValid 0x5A#8 midPing ∧
    (completedFrame 0x5A#8 midPing).field 2 = some midPing.cfg.tDevicePing ∧
    (completedFrame 0x5A#8 midPing).field midPing.cfg.offPingTarget = some midPing.cfg.syncRx ∧
    NoCommandRule midPing.cfg (completedFrame 0x5A#8 midPing) midPing.cfg.tDevicePing :=
  ⟨State.good_of_check (by decide), by unfold completesValid completes; decide +kernel, by decide, by decide,
    by unfold NoCommandRule; decide⟩

/-- Status text over a presented slot. -/
theorem witness_VendorResponseRouting : GoodState (midStatus status4Shown) ∧
    completesValid 0xE5#8 (midStatus status4Shown) ∧
    (completedFrame 0xE5#8 (midStatus status4Shown)).field 2 = some State.reset.cfg.tVendorResp ∧
    State.reset.cfg.tExtFirst ≤ State.reset.cfg.tVendorResp ∧
    NoControlRule State.reset.cfg (completedFrame 0xE5#8 (midStatus status4Shown)) State.reset.cfg.tVendorResp ∧
    (completedFrame 0xE5#8 (midStatus status4Shown)).field State.reset.cfg.offVsub =
      some State.reset.cfg.stStatusText :=
  ⟨State.good_of_check (by decide), by unfold completesValid completes; decide +kernel, by decide, by decide,
    by unfold NoControlRule NoCommandRule; decide, by decide⟩

/-- Another sub-type, over an unconsumed frame. -/
theorem witness_VendorResponseRouting_other : GoodState (midVendor msp3) ∧ completesValid 0xA0#8 (midVendor msp3) ∧
    (completedFrame 0xA0#8 (midVendor msp3)).field 2 = some State.reset.cfg.tVendorResp ∧
    NoControlRule State.reset.cfg (completedFrame 0xA0#8 (midVendor msp3)) State.reset.cfg.tVendorResp ∧
    (completedFrame 0xA0#8 (midVendor msp3)).field State.reset.cfg.offVsub = some 0x01#8 ∧
    0x01#8 ≠ State.reset.cfg.stStatusText :=
  ⟨State.good_of_check (by decide), by unfold completesValid completes; decide +kernel, by decide,
    by unfold NoControlRule NoCommandRule; decide, by decide, by decide⟩

/-- No sub-type: a declared length one below its offset. -/
theorem witness_VendorResponseRouting_short : GoodState midVendorShort ∧ completesValid 0xEF#8 midVendorShort ∧
    (completedFrame 0xEF#8 midVendorShort).field 2 = some State.reset.cfg.tVendorResp ∧
    NoControlRule State.reset.cfg (completedFrame 0xEF#8 midVendorShort) State.reset.cfg.tVendorResp ∧
    (completedFrame 0xEF#8 midVendorShort).len < State.reset.cfg.offVsub :=
  ⟨State.good_of_check (by decide), by unfold completesValid completes; decide +kernel, by decide,
    by unfold NoControlRule NoCommandRule; decide, by decide⟩

/-- From the flight controller. -/
theorem witness_OriginAddressRouting : GoodState midFc ∧ completesValid 0x30#8 midFc ∧
    (completedFrame 0x30#8 midFc).field 2 = some 0x29#8 ∧ State.reset.cfg.tExtFirst ≤ 0x29#8 ∧
    0x29#8 ≠ State.reset.cfg.tVendorResp ∧ NoControlRule State.reset.cfg (completedFrame 0x30#8 midFc) 0x29#8 ∧
    (completedFrame 0x30#8 midFc).field State.reset.cfg.offOrigin = some State.reset.cfg.addrFc ∧
    0x29#8 ≠ State.reset.cfg.tMspReq ∧ 0x29#8 ≠ State.reset.cfg.tMspResp :=
  ⟨State.good_of_check (by decide), by unfold completesValid completes; decide +kernel, by decide, by decide,
    by decide, by unfold NoControlRule NoCommandRule; decide, by decide, by decide, by decide⟩

/-- From another origin. -/
theorem witness_OriginAddressRouting_other : GoodState midOther ∧ completesValid 0x41#8 midOther ∧
    (completedFrame 0x41#8 midOther).field 2 = some 0x29#8 ∧
    NoControlRule State.reset.cfg (completedFrame 0x41#8 midOther) 0x29#8 ∧
    (completedFrame 0x41#8 midOther).field State.reset.cfg.offOrigin = some 0xEE#8 ∧
    0xEE#8 ≠ State.reset.cfg.addrFc :=
  ⟨State.good_of_check (by decide), by unfold completesValid completes; decide +kernel, by decide,
    by unfold NoControlRule NoCommandRule; decide, by decide, by decide⟩

/-- No origin: a declared length one below its offset. -/
theorem witness_OriginAddressRouting_short : GoodState midExtShort ∧ completesValid 0x58#8 midExtShort ∧
    (completedFrame 0x58#8 midExtShort).field 2 = some 0x29#8 ∧
    NoControlRule State.reset.cfg (completedFrame 0x58#8 midExtShort) 0x29#8 ∧
    (completedFrame 0x58#8 midExtShort).len < State.reset.cfg.offOrigin :=
  ⟨State.good_of_check (by decide), by unfold completesValid completes; decide +kernel, by decide,
    by unfold NoControlRule NoCommandRule; decide, by decide⟩

/-- What the three clauses share, in the three states they need: neither reserved slot, one, both occupied. -/
theorem witness_MspCollisionRouting : (∀ s ∈ [State.reset, msp3, msp34], (midMsp s).goodCheck = true ∧
      (midMsp s).fsm = .rxData ∧
      (midMsp s).cnt + 1#8 = ((midMsp s).wbuf.write (2 + (midMsp s).cnt.toNat) 0x80#8).read 1 ∧
      0x80#8 = (midMsp s).cfg.crc8 ((completedFrame 0x80#8 (midMsp s)).bytes.drop 2)
        ((completedFrame 0x80#8 (midMsp s)).len - 1) ∧
      (completedFrame 0x80#8 (midMsp s)).field 2 = some s.cfg.tMspResp ∧ s.cfg.tExtFirst ≤ s.cfg.tMspResp ∧
      s.cfg.tMspResp ≠ s.cfg.tVendorResp ∧
      (completedFrame 0x80#8 (midMsp s)).field s.cfg.offOrigin = some s.cfg.addrFc) ∧
    (midMsp State.reset).updatedAt 3 = false ∧
    ((midMsp msp3).updatedAt 3 = true ∧ (midMsp msp3).updatedAt 4 = false) ∧
    (midMsp msp34).updatedAt 3 = true ∧ (midMsp msp34).updatedAt 4 = true := by decide +kernel

theorem witness_MspCollisionRouting_noControl :
    NoControlRule State.reset.cfg (completedFrame 0x80#8 (midMsp msp34)) State.reset.cfg.tMspResp ∧
      completesValid 0x80#8 (midMsp msp34) :=
  ⟨by unfold NoControlRule NoCommandRule; decide, by unfold completesValid completes; decide +kernel⟩

/-- A free slot of the frame's own size (19 bytes). -/
theorem witness_StandardSlotRouting : GoodState midFull ∧ completesValid 0x71#8 midFull ∧
    (completedFrame 0x71#8 midFull).field 2 = some 0x02#8 ∧ 0x02#8 < State.reset.cfg.tExtFirst ∧
    NoControlRule State.reset.cfg (completedFrame 0x71#8 midFull) 0x02#8 ∧
    State.reset.cfg.std[0]? = some ⟨0x02#8, 19⟩ ∧ midFull.lockedAt 0 = false ∧
    (completedFrame 0x71#8 midFull).size = 19 :=
  ⟨State.good_of_check (by decide), by unfold completesValid completes; decide +kernel, by decide, by decide,
    by unfold NoControlRule NoCommandRule; decide, by decide, by decide, by decide⟩

/-- One byte too many (20 bytes). -/
theorem witness_StandardSlotRouting_oversize : GoodState midOver ∧ completesValid 0x6B#8 midOver ∧
    (completedFrame 0x6B#8 midOver).field 2 = some 0x02#8 ∧
    NoControlRule State.reset.cfg (completedFrame 0x6B#8 midOver) 0x02#8 ∧ midOver.lockedAt 0 = false ∧
    (completedFrame 0x6B#8 midOver).size = 20 :=
  ⟨State.good_of_check (by decide), by unfold completesValid completes; decide +kernel, by decide,
    by unfold NoControlRule NoCommandRule; decide, by decide, by decide⟩

/-- A locked slot; also for `LockedStandardSlotIsProtected`, with its step. -/
theorem witness_StandardSlotRouting_locked : GoodState (midStd std0Shown) ∧
    completesValid 0xE3#8 (midStd std0Shown) ∧ (completedFrame 0xE3#8 (midStd std0Shown)).field 2 = some 0x02#8 ∧
    NoControlRule State.reset.cfg (completedFrame 0xE3#8 (midStd std0Shown)) 0x02#8 ∧
    (midStd std0Shown).lockedAt 0 = true ∧ 0 < State.reset.cfg.n - 2 ∧
    ∃ t, exec (.feed 0xE3#8) (midStd std0Shown) = .next t ∧ t.updatedAt 0 = true :=
  ⟨State.good_of_check (by decide), by unfold completesValid completes; decide +kernel, by decide,
    by unfold NoControlRule NoCommandRule; decide, by decide, by decide,
    next_of_after (p := fun t => t.updatedAt 0) (by decide +kernel)⟩

/-- No filter matches. -/
theorem witness_StandardSlotRouting_noMatch : GoodState midNoMatch ∧ completesValid 0x6D#8 midNoMatch ∧
    (completedFrame 0x6D#8 midNoMatch).field 2 = some 0x10#8 ∧ 0x10#8 < State.reset.cfg.tExtFirst ∧
    NoControlRule State.reset.cfg (completedFrame 0x6D#8 midNoMatch) 0x10#8 ∧
    ∀ d ∈ State.reset.cfg.std, d.filter ≠ 0x10#8 :=
  ⟨State.good_of_check (by decide), by unfold completesValid completes; decide +kernel, by decide, by decide,
    by unfold NoControlRule NoCommandRule; decide, by decide⟩

/-- An MSP frame that is dropped, one of another type, and a command that completes no frame. -/
theorem witness_MspFramesAreForwarded :
    (∃ t, exec (.feed 0x80#8) (midMsp msp34) = .next t ∧ (t.mspLog.length == 1) = true) ∧
      (∃ t, exec (.feed 0x30#8) midFc = .next t ∧ t.mspLog.isEmpty = true) ∧
      completesValid 0x30#8 midFc ∧ NoControlRule State.reset.cfg (completedFrame 0x30#8 midFc) 0x29#8 ∧
      ∃ t, exec .next msp3 = .next t ∧ t.txValid = true :=
  ⟨next_of_after (p := fun t => t.mspLog.length == 1) (by decide +kernel),
    next_of_after (p := fun t => t.mspLog.isEmpty) (by decide +kernel),
    by unfold completesValid completes; decide +kernel, by unfold NoControlRule NoCommandRule; decide,
    next_of_after (p := State.txValid) (by decide)⟩

/-- The clause of the frames that never reach rule 5: one that rule 1 matches, and one without a type byte. -/
theorem witness_MspFramesAreForwarded_consumed :
    (completesValid 0x43#8 midBoot ∧
      (∀ ty, (completedFrame 0x43#8 midBoot).field 2 = some ty →
        ¬ NoControlRule midBoot.cfg (completedFrame 0x43#8 midBoot) ty) ∧
      ∃ t, exec (.feed 0x43#8) midBoot = .next t ∧ t.latchBoot = true) ∧
    (completesValid 0x00#8 midShort ∧
      (∀ ty, (completedFrame 0x00#8 midShort).field 2 = some ty →
        ¬ NoControlRule midShort.cfg (completedFrame 0x00#8 midShort) ty) ∧
      ∃ t, exec (.feed 0x00#8) midShort = .next t ∧ (t.rxCount == 1) = true) := by
  refine ⟨⟨by unfold completesValid completes; decide +kernel, fun ty h => ?_,
      next_of_after (p := State.latchBoot) (by decide +kernel)⟩,
    ⟨by unfold completesValid completes; decide +kernel, fun ty h => ?_,
      next_of_after (p := fun t => t.rxCount == 1) (by decide +kernel)⟩⟩
  · rw [show (completedFrame 0x43#8 midBoot).field 2 = some 0x21#8 by decide] at h
    cases h
    unfold NoControlRule NoCommandRule
    decide
  · rw [show (completedFrame 0x00#8 midShort).field 2 = none by decide] at h
    cases h

/-- Also for `SlotFlagsHaveTheirWriters`: a FEED sets `updated`. -/
theorem witness_FeedWritesAtMostOneSlot : GoodState midFull ∧ midFull.updatedAt 0 = false ∧
    ∃ t, exec (.feed 0x71#8) midFull = .next t ∧ t.updatedAt 0 = true :=
  ⟨State.good_of_check (by decide), by decide, next_of_after (p := fun t => t.updatedAt 0) (by decide +kernel)⟩

/-- A lap of one advance, and one of the whole table; a frame with no trailing zero, and one with three. -/
theorem witness_NextPresentsTheFirstReadySlot :
    (GoodState msp34 ∧ FirstReady msp34 2 3 ∧ TrimmedTo msp34 3 7) ∧
      (GoodState msp3Shown ∧ GoodState std0 ∧ FirstReady std0 4 0 ∧ TrimmedTo std0 0 9) ∧
      (GoodState zeroCrc ∧ FirstReady zeroCrc 4 0 ∧ TrimmedTo zeroCrc 0 5) ∧
      (GoodState (present 3 7 msp34) ∧ FirstReady (present 3 7 msp34) 0 4 ∧ TrimmedTo (present 3 7 msp34) 4 7) :=
  ⟨⟨State.good_of_check (by decide), by unfold FirstReady Ready; decide, by unfold TrimmedTo; decide⟩,
    ⟨State.good_of_check (by decide), State.good_of_check (by decide), by unfold FirstReady Ready; decide,
      by unfold TrimmedTo; decide⟩,
    ⟨State.good_of_check (by decide), by unfold FirstReady Ready; decide, by unfold TrimmedTo; decide⟩,
    ⟨State.good_of_check (by decide), by unfold FirstReady Ready; decide, by unfold TrimmedTo; decide⟩⟩

/-- No slot updated; and the one updated slot released by this very command. -/
theorem witness_NextReportsEmpty :
    (GoodState State.reset ∧ ∀ k, k < State.reset.cfg.n → ¬ Ready State.reset k) ∧
      (GoodState msp3Shown ∧ ∀ k, k < msp3Shown.cfg.n → ¬ Ready msp3Shown k) :=
  ⟨⟨State.good_of_check (by decide), by unfold Ready; decide⟩,
    ⟨State.good_of_check (by decide), by unfold Ready; decide⟩⟩

theorem witness_TrimmedToZeroReportsEmpty : RangesOk hollow ∧ FirstReady hollow 0 1 ∧
    hollow.slotByte 1 0 = 0x00#8 ∧ hollow.slotByte 1 1 = 0x00#8 :=
  ⟨State.ranges_of_check (by decide), by unfold FirstReady Ready; decide, by decide, by decide⟩

/-- With nothing ready, and with two slots ready: the order of the lap. -/
theorem witness_SweepPresentsEachReadySlotOnce : (GoodState msp3Shown ∧
      [] = ((List.range msp3Shown.cfg.n).map fun j => (msp3Shown.cursor.toNat + 1 + j) % msp3Shown.cfg.n).filter
        (fun k => msp3Shown.updatedAt k && !(k == msp3Shown.cursor.toNat && msp3Shown.lockedAt k))) ∧
    (GoodState msp34 ∧
      [3, 4] = ((List.range msp34.cfg.n).map fun j => (msp34.cursor.toNat + 1 + j) % msp34.cfg.n).filter
        (fun k => msp34.updatedAt k && !(k == msp34.cursor.toNat && msp34.lockedAt k))) :=
  ⟨⟨State.good_of_check (by decide), by decide⟩, ⟨State.good_of_check (by decide), by decide⟩⟩

/-- The bounds of the view: no view, the first offset outside, offset 1, the first and the last inside. -/
theorem witness_ReadTxEveryCase : GoodState State.reset ∧ State.reset.txValid = false ∧ GoodState msp3Shown ∧
    msp3Shown.txValid = true ∧ msp3Shown.txLen.toNat ≤ (7#8 : Byte).toNat ∧
    (1#8 : Byte).toNat < msp3Shown.txLen.toNat ∧ (0#8 : Byte).toNat < msp3Shown.txLen.toNat ∧
    (6#8 : Byte).toNat < msp3Shown.txLen.toNat :=
  ⟨State.good_of_check (by decide), by decide, State.good_of_check (by decide), by decide, by decide, by decide,
    by decide, by decide⟩

/-- E4: the presented slot 4 is overwritten. -/
theorem witness_TornViewReadsTheNewFrame : GoodState (midStatus status4Shown) ∧
    (midStatus status4Shown).txValid = true ∧
    (∃ t, exec (.feed 0xE5#8) (midStatus status4Shown) = .next t ∧
      (t.rsp.any fun r => r.route.toNat == 0x40 + (midStatus status4Shown).txSlot.toNat) = true) ∧
    (5#8 : Byte).toNat < (midStatus status4Shown).txLen.toNat ∧
    (5#8 : Byte).toNat < (completedFrame 0xE5#8 (midStatus status4Shown)).size :=
  ⟨State.good_of_check (by decide), by decide,
    next_of_after (p := fun t => t.rsp.any fun r => r.route.toNat == 0x40 + (midStatus status4Shown).txSlot.toNat)
      (by decide +kernel), by decide, by decide⟩

/-- VS7: a vendor frame written into the locked slot 3, then NEXT_PAYLOAD. -/
theorem witness_UpdateOfALockedSlotIsLost : GoodState (midVendor msp3Shown) ∧
    (midVendor msp3Shown).lockedAt 3 = true ∧
    ∃ t, exec (.feed 0xA0#8) (midVendor msp3Shown) = .next t ∧
      (t.updatedAt 3 && (after .next t).isSome) = true :=
  ⟨State.good_of_check (by decide), by decide,
    next_of_after (p := fun t => t.updatedAt 3 && (after .next t).isSome) (by decide +kernel)⟩

theorem witness_TakeMmGivesTheId : (State.latchMm { State.reset with latchMm := true }) = true ∧
    State.reset.latchMm = false := by decide

/-- A latch set by a FEED, and one cleared by its TAKE. -/
theorem witness_LatchesChangeOnlyByFrameAndTake :
    (∃ t, exec (.feed 0xAD#8) midMm = .next t ∧ (t.latchMm != midMm.latchMm && t.mmId != midMm.mmId) = true) ∧
      ∃ t, exec .takePing { State.reset with latchPing := true } = .next t ∧ (t.latchPing != true) = true :=
  ⟨next_of_after (p := fun t => t.latchMm != midMm.latchMm && t.mmId != midMm.mmId) (by decide +kernel),
    next_of_after (p := fun t => t.latchPing != true) (by decide)⟩

/-- NEXT_PAYLOAD sets one `locked`, and clears both flags of another slot; LINK_RESET clears. -/
theorem witness_SlotFlagsHaveTheirWriters :
    (∃ t, exec .next (present 3 7 msp34) = .next t ∧
      (!t.updatedAt 3 && !t.lockedAt 3 && t.lockedAt 4) = true) ∧
      ∃ t, exec .linkrst msp3Shown = .next t ∧ (!t.updatedAt 3 && !t.lockedAt 3) = true :=
  ⟨next_of_after (p := fun t => !t.updatedAt 3 && !t.lockedAt 3 && t.lockedAt 4) (by decide),
    next_of_after (p := fun t => !t.updatedAt 3 && !t.lockedAt 3) (by decide)⟩

theorem witness_OnlyFeedChangesTheReceiveSide : (∃ t, exec .next msp3 = .next t ∧ t.txValid = true) ∧
    ∀ b, Instr.next ≠ .feed b :=
  ⟨next_of_after (p := State.txValid) (by decide), fun _ h => Instr.noConfusion h⟩

/-- A FEED that completes no frame, and one that completes one. -/
theorem witness_FeedLeavesTheTransmitSide :
    (∃ t, exec (.feed 0xC8#8) State.reset = .next t ∧ (t.fsm == .rxLen) = true) ∧
      (¬ completesValid 0xC8#8 State.reset) ∧
      ∃ t, exec (.feed 0x43#8) midBoot = .next t ∧ t.latchBoot = true :=
  ⟨next_of_after (p := fun t => t.fsm == .rxLen) (by decide), by unfold completesValid completes; decide,
    next_of_after (p := State.latchBoot) (by decide +kernel)⟩

/-- For the statements whose one hypothesis is a well-formed configuration: `NoInputSequenceStopsTheBlock`,
`FrameDonePulsesAreCounted`; and one with another CRC primitive. -/
theorem witness_wellFormedConfigurations : Cfg.reference.wf = true ∧
    Cfg.wf { Cfg.reference with crc := .external 0 } = true := by decide

end Sys2Proof.Tests
end

/-! ## 00_scope: which configurations are built, and what one step does

`step` and `State.build` are case distinctions over the checks of R7, the port and the decoder; each lemma here says
what one case answers, and the obligations are read off from them. -/

namespace Sys2Proof

/-- The slots of a configuration take the standard capacities and two reserved ones (R7(e)). -/
theorem Cfg.sum_caps (c : Cfg) : c.caps.sum = (c.std.map StdSlot.cap).sum + 2 * c.resCap := by
  simp only [Cfg.caps, List.sum_append, List.sum_cons, List.sum_nil]
  omega

/-- Conditions (a) to (g) of R7, in the rule's order; `Cfg.wf_iff_meetsR7` ties them to the model's check. -/
def Cfg.MeetsR7 (c : Cfg) : Prop :=
  (2 ≤ c.n ∧ c.n ≤ 64) ∧ c.std.length = c.n - 2 ∧
    (∀ d ∈ c.std, 1 ≤ d.cap ∧ d.cap ≤ c.maxLen + 1) ∧ c.maxLen + 1 ≤ c.resCap ∧
    ((c.std.map StdSlot.cap).sum + 2 * c.resCap ≤ c.arenaSize ∧ c.arenaSize ≤ 4096) ∧
    (∀ j ∈ [c.offSub0, c.offSub1, c.offMmid, c.offOrigin, c.offPingTarget, c.offVsub], 3 ≤ j) ∧
    (2 ≤ c.maxLen ∧ c.maxLen ≤ 256)

/-- Inside the ranges of R6 the model checks nothing beyond R7 (log 7). Condition (b) needs (a): without two slots
the subtraction of the reserved ones would be cut off at 0. -/
theorem Cfg.wf_iff_meetsR7 {c : Cfg} (hcntW : 8 ≤ c.cntW ∧ c.cntW ≤ 64)
    (hoff : ∀ j ∈ [c.offSub0, c.offSub1, c.offMmid, c.offOrigin, c.offPingTarget, c.offVsub], j ≤ 255) :
    c.wf = true ↔ c.MeetsR7 := by
  rw [Cfg.wf_iff_bounds]
  constructor
  · intro h
    have hstd : c.std.length = c.n - 2 := by have := h.stdCount; omega
    exact ⟨h.slotCount, hstd, h.stdCaps, h.resCap, c.sum_caps ▸ h.arena, fun j hj => (h.offsets j hj).1, h.maxLen⟩
  · rintro ⟨hn, hstd, hcaps, hres, harena, hlow, hmax⟩
    exact ⟨hn, by omega, hcaps, hres, c.sum_caps.symm ▸ harena, fun j hj => ⟨hlow j hj, hoff j hj⟩, hmax, hcntW⟩

end Sys2Proof

namespace Sys2Proof.Machine

/-! ### Building a block -/

theorem State.build_of_wf {c : Cfg} (h : c.wf = true) : State.build c = .next (State.resetWith c) := if_pos h

theorem State.build_of_not_wf {c : Cfg} (h : ¬ c.wf = true) : State.build c = .refused .illFormedConfig := if_neg h

/-! ### One step -/

variable {s : State}

theorem step_of_not_wf (h : s.cfg.wf = false) : step s = .refused .illFormedConfig := by simp [step, h]

theorem step_of_no_input (hwf : s.cfg.wf = true) (hin : s.inputs = []) : step s = .next s.idle := by
  simp [step, hwf, hin]

theorem step_of_input {input : Input} {rest : List Input} (hwf : s.cfg.wf = true) (hin : s.inputs = input :: rest) :
    step s = acceptInput input { s with inputs := rest } := by
  simp [step, hwf, hin]

theorem acceptInput_command_of_decode_ok {w : CommandWord} {i : Instr} (hd : decode w = .ok i) :
    acceptInput (.command w) s = exec i s := by
  simp [acceptInput, acceptCommand, hd]

end Sys2Proof.Machine

namespace Sys2Proof.Scope

open Sys2Proof Sys2Proof.Machine

/-- Settles O8: the model's check is R7 inside the ranges of R6, and `State.build` branches on it alone. -/
theorem buildAcceptsExactlyWellFormed : Obligations.BuildAcceptsExactlyWellFormed := by
  unfold Obligations.BuildAcceptsExactlyWellFormed
  intro c hcntW hoff
  have hwf : c.wf = true ↔ c.MeetsR7 := Cfg.wf_iff_meetsR7 hcntW hoff
  exact ⟨fun hok => State.build_of_wf (hwf.mpr hok), fun hbad => State.build_of_not_wf (mt hwf.mp hbad)⟩

/-- Settles O4: the step accepts the first input, and accepting a word that decodes runs its command. -/
theorem stepRunsTheDecodedCommand : Obligations.StepRunsTheDecodedCommand := by
  unfold Obligations.StepRunsTheDecodedCommand
  intro s w rest i hwf hin hd
  calc step s = acceptInput (.command w) { s with inputs := rest } := step_of_input hwf hin
    _ = exec i { s with inputs := rest } := acceptInput_command_of_decode_ok hd

/-- Settles O7: the two cases of `step` in which no input is accepted; `State.idle` clears the response only. -/
theorem stepWithoutInputWaits : Obligations.StepWithoutInputWaits := by
  unfold Obligations.StepWithoutInputWaits
  exact fun s => ⟨step_of_no_input, step_of_not_wf⟩

end Sys2Proof.Scope

/-! ## 10_state: what every command writes, and the invariant of the reachable states

First comes what a command can do, then the rules about the stores and the slot table, then what each command writes,
then that each operation keeps `GoodState`; the obligations are read off from these. -/

namespace Sys2Proof.Machine

/-! ### What a command can do

`FeedCase` and `NextCase` say what FEED and NEXT_PAYLOAD can do; `CommandCase` adds the other commands. -/

/-- What a command can do when it answers a next state. A command other than FEED, NEXT_PAYLOAD and LINK_RESET answers
and clears the latch whose TAKE it is (R230 to R234, R260 to R264); LINK_RESET clears the slot flags and the view
(R265). -/
inductive CommandCase (s t : State) : Instr → Prop
  | feed (b : Byte) : FeedCase b s t → CommandCase s t (.feed b)
  | next : NextCase s t → CommandCase s t .next
  | take (i : Instr) :
      t = { s with
        latchBoot := t.latchBoot, latchBind := t.latchBind, latchMm := t.latchMm, latchPing := t.latchPing,
        rsp := t.rsp } →
      (t.latchBoot = s.latchBoot ∨ (i = .takeBoot ∧ t.latchBoot = false)) →
      (t.latchBind = s.latchBind ∨ (i = .takeBind ∧ t.latchBind = false)) →
      (t.latchMm = s.latchMm ∨ (i = .takeMm ∧ t.latchMm = false)) →
      (t.latchPing = s.latchPing ∨ (i = .takePing ∧ t.latchPing = false)) → CommandCase s t i
  | linkrst :
      t = { s with
        updated := List.replicate s.cfg.n false, locked := List.replicate s.cfg.n false, txValid := false,
        rsp := t.rsp } →
      CommandCase s t .linkrst

variable {s t : State}

/-- A command that answers only. -/
theorem CommandCase.of_answer {i : Instr} (h : t = { s with rsp := t.rsp }) : CommandCase s t i := by
  rw [h]
  exact .take i rfl (.inl rfl) (.inl rfl) (.inl rfl) (.inl rfl)

theorem exec_rdtx_frame {i : Byte} (h : exec (.rdtx i) s = .next t) : t = { s with rsp := t.rsp } := by
  rcases exec_rdtx_cases h with ⟨-, rfl⟩ | ⟨-, ⟨-, rfl⟩ | ⟨-, rfl⟩⟩ <;> rfl

theorem exec_cases {i : Instr} (h : exec i s = .next t) : CommandCase s t i := by
  cases i with
  | feed b => exact .feed b (exec_feed_cases h)
  | next => exact .next (exec_next_cases h)
  | rdtx i => exact .of_answer (exec_rdtx_frame h)
  | cntUpd | cntRx => cases h; exact .of_answer rfl
  | takeBoot => cases h; exact .take _ rfl (.inr ⟨rfl, rfl⟩) (.inl rfl) (.inl rfl) (.inl rfl)
  | takeBind => cases h; exact .take _ rfl (.inl rfl) (.inr ⟨rfl, rfl⟩) (.inl rfl) (.inl rfl)
  | takeMm => cases h; exact .take _ rfl (.inl rfl) (.inl rfl) (.inr ⟨rfl, rfl⟩) (.inl rfl)
  | takePing => cases h; exact .take _ rfl (.inl rfl) (.inl rfl) (.inl rfl) (.inr ⟨rfl, rfl⟩)
  | linkrst => cases h; exact .linkrst rfl

/-! ### Canonical byte stores -/

theorem Memory.wfFrom_cons_iff {lo a : Nat} {b : Byte} {m : Memory} :
    Memory.wfFrom lo ((a, b) :: m) = true ↔ lo ≤ a ∧ b ≠ unlistedByte ∧ Memory.wfFrom (a + 1) m = true := by
  simp [Memory.wfFrom, and_assoc]

@[simp] theorem Memory.read_head (a : Nat) (b : Byte) (m : Memory) : Memory.read ((a, b) :: m) a = b := if_pos rfl

/-- The first listed address of a store is not below every listed address of one that reads the same. -/
theorem Memory.le_head_of_read_eq {lo lo' a : Nat} {b : Byte} {m m' : Memory}
    (hm : Memory.wfFrom lo ((a, b) :: m) = true) (hm' : Memory.wfFrom lo' m' = true)
    (hread : ∀ i, Memory.read ((a, b) :: m) i = m'.read i) : lo' ≤ a := by
  by_contra hlt
  have hb : b = unlistedByte := by
    calc b = m'.read a := by rw [← hread, Memory.read_head]
      _ = unlistedByte := Memory.read_below m' hm' (by omega)
  exact (Memory.wfFrom_cons_iff.mp hm).2.1 hb

/-- Behind its first entry a canonical store reads as before, but at that entry's address. -/
theorem Memory.read_tail {lo a : Nat} {b : Byte} {m : Memory} (hm : Memory.wfFrom lo ((a, b) :: m) = true) (i : Nat) :
    m.read i = if i = a then unlistedByte else Memory.read ((a, b) :: m) i := by
  obtain ⟨-, -, hrest⟩ := Memory.wfFrom_cons_iff.mp hm
  split
  · next hi => exact Memory.read_below m hrest (by omega)
  · next hi => simp [Memory.read, hi]

theorem Memory.ext_of_wfFrom {lo lo' : Nat} {m m' : Memory} (hm : Memory.wfFrom lo m = true)
    (hm' : Memory.wfFrom lo' m' = true) (hread : ∀ i, m.read i = m'.read i) : m = m' := by
  induction m generalizing lo lo' m' with
  | nil =>
    cases m' with
    | nil => rfl
    | cons c' rest' =>
      obtain ⟨a', b'⟩ := c'
      have hb : b' = unlistedByte := by rw [← Memory.read_head a' b' rest', ← hread]; rfl
      exact absurd hb (Memory.wfFrom_cons_iff.mp hm').2.1
  | cons c rest ih =>
    obtain ⟨a, b⟩ := c
    cases m' with
    | nil =>
      have hb : b = unlistedByte := by rw [← Memory.read_head a b rest, hread]; rfl
      exact absurd hb (Memory.wfFrom_cons_iff.mp hm).2.1
    | cons c' rest' =>
      obtain ⟨a', b'⟩ := c'
      obtain ⟨-, hb, hrest⟩ := Memory.wfFrom_cons_iff.mp hm
      obtain ⟨-, hb', hrest'⟩ := Memory.wfFrom_cons_iff.mp hm'
      have hle : a' ≤ a :=
        Memory.le_head_of_read_eq hm (Memory.wfFrom_cons_iff.mpr ⟨Nat.le_refl a', hb', hrest'⟩) hread
      have hge : a ≤ a' := Memory.le_head_of_read_eq hm' (Memory.wfFrom_cons_iff.mpr ⟨Nat.le_refl a, hb, hrest⟩)
        fun i => (hread i).symm
      obtain rfl : a = a' := Nat.le_antisymm hge hle
      obtain rfl : b = b' := by simpa using hread a
      have htail : rest = rest' := ih hrest hrest' fun i => by
        rw [Memory.read_tail hm, Memory.read_tail hm', hread]
      rw [htail]

end Sys2Proof.Machine

namespace Sys2Proof

/-! ### The slot table and SlotWrite -/

/-- A slot ends where a later one begins, or before it (R71). -/
theorem Cfg.slot_end_le_base {c : Cfg} (h : c.Bounds) {j k : Nat} (hjk : j < k) (hk : k < c.n) :
    c.base j + c.cap j ≤ c.base k := by
  have hlen : j < (c.caps.take k).length := by rw [List.length_take, Cfg.length_caps h]; omega
  have hsum := sum_take_add_getD_le (c.caps.take k) j hlen
  rw [List.take_take, Nat.min_eq_left (Nat.le_of_lt hjk)] at hsum
  simpa [Cfg.base, Cfg.cap, List.getD_eq_getElem?_getD, List.getElem?_take, hjk] using hsum

end Sys2Proof

namespace Sys2Proof.Machine

variable {s t : State}

section SlotWrite

variable {k : Nat} {bytes : List Byte}

theorem State.slotWrite_slotByte_same (hw : s.slotWrite k bytes = .ok t) (hwf : s.arena.wf = true) {i : Nat}
    (hi : i < bytes.length) : t.slotByte k i = bytes.getD i 0#8 := by
  obtain ⟨-, -, rfl⟩ := State.slotWrite_ok hw
  change Memory.read (s.arena.writeBytes (s.cfg.base k) bytes) (s.cfg.base k + i) = _
  rw [Memory.read_writeBytes _ _ _ hwf, if_pos (by omega), Nat.add_sub_cancel_left]

/-- A frame that fits its slot changes no byte of another slot. -/
theorem State.slotWrite_slotByte_other (hw : s.slotWrite k bytes = .ok t) (hwf : s.arena.wf = true)
    (hc : s.cfg.Bounds) (hfit : bytes.length ≤ s.cfg.cap k) {j i : Nat} (hjk : j ≠ k) (hj : j < s.cfg.n)
    (hi : i < s.cfg.cap j) : t.slotByte j i = s.slotByte j i := by
  obtain ⟨hk, -, rfl⟩ := State.slotWrite_ok hw
  change Memory.read (s.arena.writeBytes (s.cfg.base k) bytes) (s.cfg.base j + i) = _
  rw [Memory.read_writeBytes _ _ _ hwf, if_neg]
  · rfl
  · rcases Nat.lt_or_gt_of_ne hjk with hlt | hgt
    · have := Cfg.slot_end_le_base hc hlt hk
      omega
    · have := Cfg.slot_end_le_base hc hgt hj
      omega

theorem State.slotWrite_updatedAt (hw : s.slotWrite k bytes = .ok t) (hlen : s.updated.length = s.cfg.n) (j : Nat) :
    t.updatedAt j = if j = k then true else s.updatedAt j := by
  obtain ⟨hk, -, rfl⟩ := State.slotWrite_ok hw
  rw [State.markUpdated_updatedAt]
  simp only [hlen, hk, and_true]
  rfl

/-! ### The frame in the working buffer and where it may be stored -/

theorem State.wbufFrame_length (s : State) : s.wbufFrame.bytes.length = s.wbufFrame.size :=
  Memory.length_readBytes _ _ _

/-- Byte 1 of a frame is its declared length (R100). -/
theorem State.wbufFrame_lengthByte (s : State) : (s.wbufFrame.bytes.getD 1 0#8).toNat = s.wbufFrame.len := by
  change ((s.wbuf.readBytes 0 ((s.wbuf.read 1).toNat + 2)).getD 1 0#8).toNat = (s.wbuf.read 1).toNat
  rw [Memory.getD_readBytes _ _ _ _ (by omega)]

theorem Frame.le_len_of_field {f : Frame} {j : Nat} {b : Byte} (h : f.field j = some b) : j ≤ f.len := by
  by_contra hj
  simp [Frame.field, Frame.present, hj] at h

theorem routeExtended_store {f : Frame} {ty : Byte} (h : routeExtended s f ty = .store k) :
    k = s.cfg.res1 ∨ k = s.cfg.res2 := by
  unfold routeExtended at h
  split at h <;> split at h
  · cases h
  · split at h <;> cases h
    · exact .inl rfl
    · exact .inr rfl
  · cases h
  · split at h
    · split at h
      · split at h <;> cases h
        exact .inl rfl
      · cases h; exact .inr rfl
    · cases h; exact .inl rfl

theorem routeStandard_store {f : Frame} {ty : Byte} (h : routeStandard s f ty = .store k) :
    k < s.cfg.std.length ∧ s.lockedAt k = false ∧ f.size ≤ s.cfg.cap k := by
  unfold routeStandard at h
  split at h
  · cases h
  · next j hj =>
    obtain ⟨hlt, -⟩ := List.findIdx?_eq_some_iff_getElem.mp hj
    split at h
    · cases h
    · next hl =>
      split at h
      · cases h
      · next hsz => cases h; exact ⟨hlt, by simpa using hl, by omega⟩

/-- Where a frame is stored: a reserved slot, or a standard slot that is not locked and holds the frame (R178,
R185 to R188). -/
theorem storageOf_store {f : Frame} {ty : Byte} (h : storageOf s f ty = .store k) :
    (k = s.cfg.res1 ∨ k = s.cfg.res2) ∨
      (k < s.cfg.std.length ∧ s.lockedAt k = false ∧ f.size ≤ s.cfg.cap k) := by
  unfold storageOf at h
  split at h
  · exact .inl (routeExtended_store h)
  · exact .inr (routeStandard_store h)

/-- A frame that fits the working buffer fits the slot it is stored in: a reserved slot holds every frame (R7(d)), a
standard one is checked (R187). -/
theorem size_le_cap_of_storageOf_store {f : Frame} {ty : Byte} (hc : s.cfg.Bounds)
    (h : storageOf s f ty = .store k) (hmax : f.size ≤ s.cfg.maxFrame) : f.size ≤ s.cfg.cap k := by
  have hn := hc.slotCount
  rcases storageOf_store h with hres | ⟨-, -, hfit⟩
  · have hcap : s.cfg.cap k = s.cfg.resCap :=
      Cfg.cap_reserved hc (by unfold Cfg.res1 Cfg.res2 at *; omega) (by unfold Cfg.res1 Cfg.res2 at *; omega)
    rw [hcap]
    exact Nat.le_trans hmax hc.resCap
  · exact hfit

/-- No frame is stored in a locked standard slot (R186). -/
theorem not_locked_of_storageOf_store {f : Frame} {ty : Byte}
    (h : storageOf s f ty = .store k) (hk : k < s.cfg.n - 2) : s.lockedAt k = false := by
  rcases storageOf_store h with hres | ⟨-, hl, -⟩
  · unfold Cfg.res1 Cfg.res2 at hres
    omega
  · exact hl

end SlotWrite

/-- The classifier either writes nothing but latches, `mm_id` and the MSP log, or stores the frame by SlotWrite
after it may have appended it to the MSP log (R170, R189). -/
theorem classify_keeps_or_stores {f : Frame} {route : Route} (h : classify s f = .ok (t, route)) :
    t = { s with
      latchBoot := t.latchBoot, latchBind := t.latchBind, latchMm := t.latchMm, latchPing := t.latchPing,
      mmId := t.mmId, mspLog := t.mspLog } ∨
    ∃ ty k log, f.field 2 = some ty ∧ storageOf s f ty = .store k ∧
      State.slotWrite { s with mspLog := log } k f.bytes = .ok t := by
  have hfwd : ∀ ty, s.forwardMsp f ty = { s with mspLog := (s.forwardMsp f ty).mspLog } := by
    intro ty
    unfold State.forwardMsp
    split <;> rfl
  rcases classify_cases h with ⟨-, rfl, -⟩ | ⟨-, ctl, -, -, rfl, -⟩ | ⟨ty, hty, -, happly⟩
  · exact .inl rfl
  · cases ctl <;> exact .inl rfl
  · rcases State.applyStorage_cases happly with ⟨-, rfl⟩ | ⟨k, hstore, -, hw⟩
    · left
      rw [hfwd ty]
    · rw [hfwd ty] at hw
      exact .inr ⟨ty, k, _, hty, hstore, hw⟩

/-! ### What each command writes -/

/-- NEXT_PAYLOAD writes nothing but the slot flags, the cursor and the view (R45). -/
theorem NextCase.frame (h : NextCase s t) : t = { s with
    updated := t.updated, locked := t.locked, cursor := t.cursor, txValid := t.txValid, txSlot := t.txSlot,
    txLen := t.txLen, rsp := t.rsp } := by
  rcases h with ⟨-, rfl⟩ | ⟨k, -, -, rfl⟩ | ⟨k, r, -, -, -, rfl⟩ <;> rw [State.releaseCursor_kept] <;> rfl

/-- What FEED leaves as it is (R45), and that it clears no `updated` flag (R36). -/
structure FeedKept (s t : State) : Prop where
  cfg : t.cfg = s.cfg
  locked : t.locked = s.locked
  cursor : t.cursor = s.cursor
  txValid : t.txValid = s.txValid
  txSlot : t.txSlot = s.txSlot
  txLen : t.txLen = s.txLen
  inputs : t.inputs = s.inputs
  updated : ∀ k, s.updatedAt k = true → t.updatedAt k = true

/-- FEED of a byte that completes no CRC-valid frame writes the framer's registers and the working buffer only
(R141 to R143, R147). -/
theorem FeedCase.frame_of_not_valid {b : Byte} (h : FeedCase b s t) (hv : ¬ completesValid b s) :
    t = { s with fsm := t.fsm, cnt := t.cnt, wbuf := t.wbuf, rsp := t.rsp } := by
  cases h with
  | sync _ _ ht | notSync _ _ ht | badLength _ _ ht => rw [ht]; rfl
  | length _ _ _ ht | data _ _ _ ht | badCrc _ _ _ ht => rw [ht]; rfl
  | valid _ _ hvalid => exact absurd hvalid hv

/-- FEED of a byte that completes a CRC-valid frame does what the classifier does, and counts the frame. -/
theorem FeedCase.classified_of_valid {b : Byte} (h : FeedCase b s t) (hv : completesValid b s) :
    ∃ s' route, 2 + s.cnt.toNat < s.cfg.maxFrame ∧ (completedFrame b s).size ≤ s.cfg.maxFrame ∧
      classify (s.completed b) (completedFrame b s) = .ok (s', route) ∧
      t = s'.countFrame.respond .ok true true route 0#32 := by
  obtain ⟨⟨hfsm, hend⟩, hcrc⟩ := hv
  cases h with
  | sync hf | notSync hf | length hf | badLength hf => rw [hf] at hfsm; cases hfsm
  | data _ _ hn => exact absurd ⟨hfsm, hend⟩ hn
  | badCrc _ _ hn => exact absurd ⟨⟨hfsm, hend⟩, hcrc⟩ hn
  | valid s' route _ hi hsize hcl ht => exact ⟨s', route, hi, hsize, hcl, ht⟩

theorem FeedCase.kept {b : Byte} (h : FeedCase b s t) : FeedKept s t := by
  by_cases hv : completesValid b s
  · obtain ⟨s', route, -, -, hcl, rfl⟩ := h.classified_of_valid hv
    have hk := classify_kept hcl
    exact ⟨hk.cfg, hk.locked, hk.cursor, hk.txValid, hk.txSlot, hk.txLen, hk.inputs, hk.updated⟩
  · rw [h.frame_of_not_valid hv]
    exact ⟨rfl, rfl, rfl, rfl, rfl, rfl, rfl, fun _ hu => hu⟩

/-- A command other than FEED writes nothing but the slot flags, the cursor, the view and the latches (R45). -/
theorem CommandCase.frame_of_not_feed {i : Instr} (h : CommandCase s t i) (hi : ∀ b, i ≠ .feed b) : t = { s with
    updated := t.updated, locked := t.locked, cursor := t.cursor, txValid := t.txValid, txSlot := t.txSlot,
    txLen := t.txLen, latchBoot := t.latchBoot, latchBind := t.latchBind, latchMm := t.latchMm,
    latchPing := t.latchPing, rsp := t.rsp } := by
  cases h with
  | feed b _ => exact absurd rfl (hi b)
  | next hn => rw [hn.frame]
  | take _ ht => rw [ht]
  | linkrst ht => rw [ht]

/-! ### The latches -/

/-- The command completes a CRC-valid frame. -/
def ReceivesValid (i : Instr) (s : State) : Prop := ∃ b, i = .feed b ∧ completesValid b s

/-- How a command can leave the latches: a latch is kept, cleared by its own TAKE, or set by a CRC-valid frame
(R42, R264). -/
structure LatchesWritten (i : Instr) (s t : State) : Prop where
  boot : t.latchBoot = s.latchBoot ∨ (i = .takeBoot ∧ t.latchBoot = false) ∨ (t.latchBoot = true ∧ ReceivesValid i s)
  bind : t.latchBind = s.latchBind ∨ (i = .takeBind ∧ t.latchBind = false) ∨ (t.latchBind = true ∧ ReceivesValid i s)
  mm : t.latchMm = s.latchMm ∨ (i = .takeMm ∧ t.latchMm = false) ∨ (t.latchMm = true ∧ ReceivesValid i s)
  ping : t.latchPing = s.latchPing ∨ (i = .takePing ∧ t.latchPing = false) ∨ (t.latchPing = true ∧ ReceivesValid i s)
  mmId : t.mmId = s.mmId ∨ (t.latchMm = true ∧ ReceivesValid i s)

theorem LatchesWritten.of_kept {i : Instr} (h : LatchesKept s t) : LatchesWritten i s t :=
  ⟨.inl h.boot, .inl h.bind, .inl h.mm, .inl h.ping, .inl h.mmId⟩

theorem FeedCase.latchesWritten {b : Byte} (h : FeedCase b s t) : LatchesWritten (.feed b) s t := by
  by_cases hv : completesValid b s
  · have hr : ReceivesValid (.feed b) s := ⟨b, rfl, hv⟩
    obtain ⟨s', route, -, -, hcl, rfl⟩ := h.classified_of_valid hv
    have hk := classify_kept hcl
    exact ⟨hk.boot.imp_right fun hset => .inr ⟨hset, hr⟩, hk.bind.imp_right fun hset => .inr ⟨hset, hr⟩,
      hk.mm.imp_right fun hset => .inr ⟨hset, hr⟩, hk.ping.imp_right fun hset => .inr ⟨hset, hr⟩,
      hk.mmId.imp_right fun hset => ⟨hset, hr⟩⟩
  · rw [h.frame_of_not_valid hv]
    exact .of_kept ⟨rfl, rfl, rfl, rfl, rfl⟩

theorem CommandCase.latchesWritten {i : Instr} (h : CommandCase s t i) : LatchesWritten i s t := by
  cases h with
  | feed b hf => exact hf.latchesWritten
  | next hn => rw [hn.frame]; exact .of_kept ⟨rfl, rfl, rfl, rfl, rfl⟩
  | take _ ht hboot hbind hmm hping =>
    have hid : t.mmId = s.mmId := by rw [ht]
    exact ⟨hboot.imp_right .inl, hbind.imp_right .inl, hmm.imp_right .inl, hping.imp_right .inl, .inl hid⟩
  | linkrst ht => rw [ht]; exact .of_kept ⟨rfl, rfl, rfl, rfl, rfl⟩

/-! ### The slot flags -/

theorem State.updatedAt_congr (h : t.updated = s.updated) (k : Nat) : t.updatedAt k = s.updatedAt k := by
  unfold State.updatedAt
  rw [h]

theorem State.lockedAt_congr (h : t.locked = s.locked) (k : Nat) : t.lockedAt k = s.lockedAt k := by
  unfold State.lockedAt
  rw [h]

theorem State.updatedAt_of_releaseCursor {k : Nat} (h : s.releaseCursor.updatedAt k = true) :
    s.updatedAt k = true := by
  unfold State.releaseCursor at h
  split at h
  · rw [State.releaseSlot_updatedAt] at h
    split at h
    · cases h
    · exact h
  · exact h

/-- The lap reads the flags after the release, and neither the lock nor the view writes `updated` (R221, R222). -/
theorem NextCase.updated (h : NextCase s t) : t.updated = s.releaseCursor.updated := by
  rcases h with ⟨-, rfl⟩ | ⟨k, -, -, rfl⟩ | ⟨k, r, -, -, -, rfl⟩ <;> rfl

/-- NEXT_PAYLOAD locks no slot but the one its lap stops at (R223). -/
theorem NextCase.locked_cases (h : NextCase s t) : t.locked = s.releaseCursor.locked ∨
    ∃ k, s.releaseCursor.lap = some k ∧ t.locked = s.releaseCursor.locked.set k true := by
  rcases h with ⟨-, rfl⟩ | ⟨k, hlap, -, rfl⟩ | ⟨k, r, hlap, -, -, rfl⟩
  · exact .inl rfl
  · exact .inr ⟨k, hlap, rfl⟩
  · exact .inr ⟨k, hlap, rfl⟩

theorem NextCase.updatedAt_of_updatedAt (h : NextCase s t) {k : Nat} (hk : t.updatedAt k = true) :
    s.updatedAt k = true := by
  rw [State.updatedAt_congr h.updated] at hk
  exact State.updatedAt_of_releaseCursor hk

/-- How a command can leave the flags of slot `k`: set by a CRC-valid frame (`updated`) or by NEXT_PAYLOAD
(`locked`), cleared by NEXT_PAYLOAD or LINK_RESET (R36, R37). -/
structure FlagsWritten (i : Instr) (s t : State) (k : Nat) : Prop where
  updatedSet : t.updatedAt k = true → s.updatedAt k = true ∨ ReceivesValid i s
  updatedCleared : t.updatedAt k = false → s.updatedAt k = false ∨ i = .next ∨ i = .linkrst
  lockedSet : t.lockedAt k = true → s.lockedAt k = true ∨ i = .next
  lockedCleared : t.lockedAt k = false → s.lockedAt k = false ∨ i = .next ∨ i = .linkrst

theorem FeedCase.flagsWritten {b : Byte} (h : FeedCase b s t) (k : Nat) : FlagsWritten (.feed b) s t k := by
  have hlocked : t.lockedAt k = s.lockedAt k := State.lockedAt_congr h.kept.locked k
  refine ⟨fun hu => ?_, fun hu => .inl ?_, fun hl => .inl (hlocked ▸ hl), fun hl => .inl (hlocked ▸ hl)⟩
  · by_cases hv : completesValid b s
    · exact .inr ⟨b, rfl, hv⟩
    · have hupdated : t.updated = s.updated := by rw [h.frame_of_not_valid hv]
      exact .inl (State.updatedAt_congr hupdated k ▸ hu)
  · by_contra hs
    simp [h.kept.updated k (by simpa using hs)] at hu

theorem CommandCase.flagsWritten {i : Instr} (h : CommandCase s t i) (k : Nat) : FlagsWritten i s t k := by
  cases h with
  | feed b hf => exact hf.flagsWritten k
  | next hn =>
    exact ⟨fun hu => .inl (hn.updatedAt_of_updatedAt hu), fun _ => .inr (.inl rfl), fun _ => .inr rfl,
      fun _ => .inr (.inl rfl)⟩
  | take _ ht => rw [ht]; exact ⟨.inl, .inl, .inl, .inl⟩
  | linkrst ht =>
    have hupdated : t.updatedAt k = false := by rw [ht]; exact getD_replicate_false s.cfg.n k
    have hlocked : t.lockedAt k = false := by rw [ht]; exact getD_replicate_false s.cfg.n k
    exact ⟨fun hu => absurd hu (by simp [hupdated]), fun _ => .inr (.inr rfl),
      fun hl => absurd hl (by simp [hlocked]), fun _ => .inr (.inr rfl)⟩

/-- `locked` implies `updated` (R38). -/
def State.LocksUpdated (s : State) : Prop := ∀ k, s.lockedAt k = true → s.updatedAt k = true

/-- The release clears both flags of the slot, so it leaves no slot locked alone. -/
theorem State.LocksUpdated.releaseCursor (h : s.LocksUpdated) : s.releaseCursor.LocksUpdated := by
  unfold State.releaseCursor
  split
  · next hcur =>
    have hlt := State.lockedAt_lt s hcur
    intro k hk
    rw [State.releaseSlot_lockedAt] at hk
    rw [State.releaseSlot_updatedAt]
    by_cases hkc : k = s.cursor.toNat
    · simp [hkc, hlt] at hk
    · rw [if_neg (fun hc => hkc hc.1)] at hk ⊢
      exact h k hk
  · exact h

/-- The slot that NEXT_PAYLOAD locks is updated (R222, R223). -/
theorem NextCase.locksUpdated (h : NextCase s t) (hs : s.LocksUpdated) : t.LocksUpdated := by
  intro k hk
  rw [State.updatedAt_congr h.updated]
  rcases h.locked_cases with hl | ⟨j, hlap, hl⟩
  · exact hs.releaseCursor k (State.lockedAt_congr hl k ▸ hk)
  · have hlock : (s.releaseCursor.lockSlot j).lockedAt k = true := by
      rw [← State.lockedAt_congr (t := t) hl]
      exact hk
    rw [State.lockSlot_lockedAt] at hlock
    split at hlock
    · next hj => rw [hj.1]; exact (State.lap_some hlap).2
    · exact hs.releaseCursor k hlock

theorem FeedKept.locksUpdated (h : FeedKept s t) (hs : s.LocksUpdated) : t.LocksUpdated :=
  fun k hk => h.updated k (hs k (State.lockedAt_congr h.locked k ▸ hk))

theorem CommandCase.locksUpdated {i : Instr} (h : CommandCase s t i) (hs : s.LocksUpdated) : t.LocksUpdated := by
  cases h with
  | feed b hf => exact hf.kept.locksUpdated hs
  | next hn => exact hn.locksUpdated hs
  | take _ ht => rw [ht]; exact hs
  | linkrst ht =>
    have hlocked : ∀ k, t.lockedAt k = false := fun k => by rw [ht]; exact getD_replicate_false s.cfg.n k
    exact fun k hk => absurd hk (by simp [hlocked k])

/-! ### What one step keeps -/

/-- A property that does not depend on the inputs and the response, and that full reset and every command keep, is
kept by every step. -/
theorem step_keeps {P : State → Prop} (henv : ∀ u inputs rsp, P u → P { u with inputs := inputs, rsp := rsp })
    (hreset : ∀ u, P u → P u.fullReset) (hexec : ∀ i u v, P u → exec i u = .next v → P v)
    (hs : P s) (h : step s = .next t) : P t := by
  obtain ⟨-, ⟨-, rfl⟩ | ⟨input, rest, -, ha⟩⟩ := step_cases h
  · exact henv s s.inputs none hs
  · have hrest : P { s with inputs := rest } := henv s rest s.rsp hs
    rcases acceptInput_cases ha with ⟨-, rfl⟩ | ⟨-, i, -, -, hi⟩ | ⟨-, -, -, -, rfl⟩
    · exact hreset _ hrest
    · exact hexec i _ _ hrest hi
    · exact henv _ _ _ hrest

theorem CommandCase.cfg {i : Instr} (h : CommandCase s t i) : t.cfg = s.cfg := by
  cases h with
  | feed b hf => exact hf.kept.cfg
  | next hn => rw [hn.frame]
  | take _ ht => rw [ht]
  | linkrst ht => rw [ht]

/-! ### `GoodState` at reset, and the fields it does not read -/

theorem FramerOk.of_idle (h : s.fsm = .idle) : FramerOk s :=
  have hne : s.fsm ≠ .rxData := by simp [h]
  ⟨fun hf => absurd hf hne, fun hf => absurd hf hne, fun hf => absurd h hf⟩

theorem GoodState.resetWith {c : Cfg} (h : c.wf = true) : GoodState (State.resetWith c) := by
  have hcursor : 0 < c.n := Nat.lt_of_lt_of_le Nat.two_pos (Cfg.Bounds.of_wf h).slotCount.1
  exact ⟨⟨h, List.length_replicate, List.length_replicate, hcursor, Nat.two_pow_pos _, rfl, rfl, rfl, rfl⟩,
    .of_idle rfl,
    { lockedUpdated := fun k hk => absurd hk (by simp)
      declared := fun k hk => absurd hk (by simp)
      lockedView := fun k hk => absurd hk (by simp)
      viewLocked := nofun
      viewLength := nofun }⟩

/-- The invariant says nothing of the latches, `mm_id`, the inputs, the response and the MSP log. -/
theorem GoodState.withUnread (h : GoodState s) (boot bind mm ping : Bool) (id : Byte) (inputs : List Input)
    (rsp : Option Response) (log : List (List Byte)) :
    GoodState { s with
      latchBoot := boot, latchBind := bind, latchMm := mm, latchPing := ping, mmId := id, inputs := inputs,
      rsp := rsp, mspLog := log } :=
  ⟨{ h.ranges with }, { h.framer with }, { h.slots with }⟩

theorem GoodState.bounds (h : GoodState s) : s.cfg.Bounds := Cfg.Bounds.of_wf h.ranges.cfg

/-! ### Receiving keeps `GoodState` -/

/-- FEED keeps the framer's invariants (R151), in every state whose working buffer is canonical. -/
theorem FeedCase.framerOk {b : Byte} (h : FeedCase b s t) (hwf : s.wbuf.wf = true) (hs : FramerOk s) :
    FramerOk t := by
  have hread := Memory.read_write s.wbuf (b := b) (hm := hwf)
  cases h with
  | sync _ hb ht =>
    rw [ht]
    refine ⟨nofun, nofun, fun _ => ?_⟩
    change s.cfg.isSync ((s.wbuf.write 0 b).read 0) = true
    rw [hread, if_pos rfl]
    exact hb
  | notSync _ _ ht => rw [ht]; exact { hs with }
  | length hf hlt hb ht =>
    have hlen : (s.wbuf.write 1 b).read 1 = b := by rw [hread, if_pos rfl]
    have hpos : 0 < b.toNat := Nat.pos_of_ne_zero fun h0 => hb (BitVec.eq_of_toNat_eq h0)
    rw [ht]
    refine ⟨fun _ => ?_, fun _ => ?_, fun _ => ?_⟩
    · change 1 ≤ ((s.wbuf.write 1 b).read 1).toNat ∧ ((s.wbuf.write 1 b).read 1).toNat ≤ s.cfg.maxLen - 1
      rw [hlen]
      omega
    · change 0 < ((s.wbuf.write 1 b).read 1).toNat
      rw [hlen]
      exact hpos
    · change s.cfg.isSync ((s.wbuf.write 1 b).read 0) = true
      rw [hread, if_neg (by decide)]
      exact hs.sync (by rw [hf]; decide)
  | data hf _ hn ht =>
    have hlen : (s.wbuf.write (2 + s.cnt.toNat) b).read 1 = s.wbuf.read 1 := by rw [hread, if_neg (by omega)]
    have hne : s.cnt + 1#8 ≠ s.wbuf.read 1 := fun hc => hn ⟨hf, by rw [hlen]; exact hc⟩
    have hlt := hs.count hf
    rw [ht]
    refine ⟨fun _ => ?_, fun _ => ?_, fun _ => ?_⟩
    · change 1 ≤ ((s.wbuf.write (2 + s.cnt.toNat) b).read 1).toNat ∧
        ((s.wbuf.write (2 + s.cnt.toNat) b).read 1).toNat ≤ s.cfg.maxLen - 1
      rw [hlen]
      exact hs.length hf
    · change (s.cnt + 1#8).toNat < ((s.wbuf.write (2 + s.cnt.toNat) b).read 1).toNat
      rw [hlen]
      bv_omega
    · change s.cfg.isSync ((s.wbuf.write (2 + s.cnt.toNat) b).read 0) = true
      rw [hread, if_neg (by omega)]
      exact hs.sync (by rw [hf]; decide)
  | badLength _ _ ht => rw [ht]; exact .of_idle rfl
  | badCrc _ _ _ ht => rw [ht]; exact .of_idle rfl
  | valid s' route _ _ _ hcl ht => rw [ht]; exact .of_idle (classify_kept hcl).fsm

/-- FEED writes at most one byte of the working buffer, and inside it (R70). -/
theorem FeedCase.wbuf_cases {b : Byte} (h : FeedCase b s t) :
    t.wbuf = s.wbuf ∨ ∃ i, i < s.cfg.maxFrame ∧ t.wbuf = s.wbuf.write i b := by
  cases h with
  | sync _ _ ht => exact .inr ⟨0, Nat.succ_pos _, by rw [ht]; rfl⟩
  | notSync _ _ ht | badLength _ _ ht => exact .inl (by rw [ht]; rfl)
  | length _ hlt hb ht =>
    have hpos : 0 < b.toNat := Nat.pos_of_ne_zero fun h0 => hb (BitVec.eq_of_toNat_eq h0)
    exact .inr ⟨1, by unfold Cfg.maxFrame; omega, by rw [ht]; rfl⟩
  | data _ hi _ ht | badCrc _ hi _ ht => exact .inr ⟨_, hi, by rw [ht]; rfl⟩
  | valid s' route _ hi _ hcl ht => exact .inr ⟨_, hi, by rw [ht]; exact (classify_kept hcl).wbuf⟩

theorem FeedCase.wbuf_ok {b : Byte} (h : FeedCase b s t) (hwf : s.wbuf.wf = true)
    (hsize : s.wbuf.below s.cfg.maxFrame = true) : t.wbuf.wf = true ∧ t.wbuf.below s.cfg.maxFrame = true := by
  rcases h.wbuf_cases with hw | ⟨i, hi, hw⟩ <;> rw [hw]
  · exact ⟨hwf, hsize⟩
  · exact ⟨Memory.write_wf _ _ _ hwf, Memory.write_below _ _ _ _ hi hsize⟩

theorem GoodState.completed (h : GoodState s) {b : Byte} (hi : 2 + s.cnt.toNat < s.cfg.maxFrame) :
    GoodState (s.completed b) :=
  ⟨{ h.ranges with
      wbufWf := Memory.write_wf _ _ _ h.ranges.wbufWf
      wbufSize := Memory.write_below _ _ _ _ hi h.ranges.wbufSize },
    .of_idle rfl, { h.slots with }⟩

/-- SlotWrite of a frame with a type byte that fits its slot keeps the invariant: the slot then holds that frame, and
every other slot its own. -/
theorem GoodState.slotWrite (h : GoodState s) {k : Nat} (hw : s.slotWrite k s.wbufFrame.bytes = .ok t)
    (htype : 2 ≤ s.wbufFrame.len) (hmax : s.wbufFrame.size ≤ s.cfg.maxFrame) (hfit : s.wbufFrame.size ≤ s.cfg.cap k) :
    GoodState t := by
  have hupdated := State.slotWrite_updatedAt hw h.ranges.updated
  have hother := @State.slotWrite_slotByte_other s t k _ hw h.ranges.arenaWf h.bounds
    (by rw [State.wbufFrame_length]; exact hfit)
  have hsame : (t.slotByte k 1).toNat = s.wbufFrame.len := by
    rw [State.slotWrite_slotByte_same hw h.ranges.arenaWf (by rw [State.wbufFrame_length, Frame.size]; omega)]
    exact State.wbufFrame_lengthByte s
  obtain ⟨-, hin, rfl⟩ := State.slotWrite_ok hw
  refine ⟨{ h.ranges with
      updated := (List.length_set ..).trans h.ranges.updated
      arenaWf := Memory.writeBytes_wf _ _ _ h.ranges.arenaWf
      arenaSize := Memory.writeBytes_below _ _ _ _ hin h.ranges.arenaSize }, { h.framer with },
    { h.slots with lockedUpdated := fun j hj => ?_, declared := fun j hj => ?_ }⟩
  · rw [hupdated]
    split
    · rfl
    · exact h.slots.lockedUpdated j hj
  · unfold State.declaredSize
    rw [hupdated] at hj
    by_cases hjk : j = k
    · subst hjk
      rw [hsame]
      exact ⟨htype, hfit, hmax⟩
    · rw [if_neg hjk] at hj
      obtain ⟨htype', hfit', hmax'⟩ := h.slots.declared j hj
      have hjn : j < s.cfg.n := h.ranges.updated ▸ State.updatedAt_lt s hj
      rw [hother hjk hjn (by unfold State.declaredSize at hfit'; omega)]
      exact ⟨htype', hfit', hmax'⟩

theorem GoodState.classify {route : Route} (h : GoodState s) (hmax : s.wbufFrame.size ≤ s.cfg.maxFrame)
    (hcl : classify s s.wbufFrame = .ok (t, route)) : GoodState t := by
  rcases classify_keeps_or_stores hcl with ht | ⟨ty, k, log, hty, hstore, hw⟩
  · rw [ht]
    exact h.withUnread ..
  · have hlog : GoodState { s with mspLog := log } := h.withUnread ..
    exact hlog.slotWrite hw (Frame.le_len_of_field hty) hmax (size_le_cap_of_storageOf_store h.bounds hstore hmax)

theorem GoodState.countFrame (h : GoodState s) : GoodState s.countFrame :=
  ⟨{ h.ranges with rxCount := Nat.mod_lt _ (Nat.two_pow_pos _) }, { h.framer with }, { h.slots with }⟩

theorem FeedCase.goodState {b : Byte} (h : FeedCase b s t) (hs : GoodState s) : GoodState t := by
  by_cases hv : completesValid b s
  · obtain ⟨s', route, hi, hsize, hcl, rfl⟩ := h.classified_of_valid hv
    exact ((hs.completed hi).classify hsize hcl).countFrame.withUnread ..
  · have hframer : FramerOk t := h.framerOk hs.ranges.wbufWf hs.framer
    obtain ⟨hwf, hsize⟩ := h.wbuf_ok hs.ranges.wbufWf hs.ranges.wbufSize
    rw [h.frame_of_not_valid hv] at hframer ⊢
    exact ⟨{ hs.ranges with wbufWf := hwf, wbufSize := hsize }, hframer, { hs.slots with }⟩

/-! ### Sending keeps `GoodState` -/

/-- Clearing every lock, and any `updated` flags, ends the view and keeps the invariant. -/
theorem GoodState.endView (h : GoodState s) {updated locked : List Bool} (hu : updated.length = s.cfg.n)
    (hl : locked.length = s.cfg.n) (hupdated : ∀ k, updated.getD k false = true → s.updatedAt k = true)
    (hlocked : ∀ k, locked.getD k false = false) :
    GoodState { s with updated := updated, locked := locked, txValid := false } := by
  have hnone : ∀ k, ¬ locked.getD k false = true := fun k hk => Bool.false_ne_true ((hlocked k).symm.trans hk)
  exact ⟨{ h.ranges with updated := hu, locked := hl }, { h.framer with },
    { lockedUpdated := fun k hk => absurd hk (hnone k)
      declared := fun k hk => h.slots.declared k (hupdated k hk)
      lockedView := fun k hk => absurd hk (hnone k)
      viewLocked := nofun
      viewLength := nofun }⟩

/-- The release unlocks every slot: only the one under the cursor was locked (R221, I27). -/
theorem GoodState.releaseCursor_lockedAt (h : GoodState s) (k : Nat) : s.releaseCursor.lockedAt k = false := by
  rw [State.releaseCursor_lockedAt (by rw [h.ranges.locked]; exact h.ranges.cursor)]
  split
  · rfl
  · next hk =>
    by_contra hl
    obtain ⟨hv, hslot⟩ := h.slots.lockedView k (by simpa using hl)
    exact hk (by rw [hslot, (h.slots.viewLocked hv).1])

theorem State.releaseCursor_length (s : State) : s.releaseCursor.updated.length = s.updated.length ∧
    s.releaseCursor.locked.length = s.locked.length := by
  unfold State.releaseCursor
  split <;> simp

/-- After the release, with no view, the invariant holds. -/
theorem GoodState.release (h : GoodState s) : GoodState { s.releaseCursor with txValid := false } := by
  obtain ⟨hu, hl⟩ := State.releaseCursor_length s
  have hend := h.endView (hu.trans h.ranges.updated) (hl.trans h.ranges.locked)
    (fun k hk => State.updatedAt_of_releaseCursor hk) h.releaseCursor_lockedAt
  rw [State.releaseCursor_kept]
  exact hend

/-- A slot whose frame has a type byte is trimmed to no less than its two header bytes (R224, R225). -/
theorem State.two_le_of_trim {k r : Nat} (h : s.trim k = .ok r) (htype : 2 ≤ (s.slotByte k 1).toNat) :
    2 ≤ r ∧ r ≤ s.declaredSize k := by
  obtain ⟨-, -, rfl⟩ := State.trim_ok h
  obtain ⟨hle, hzero, -⟩ := State.trimZeros_spec s k (s.declaredSize k)
  refine ⟨?_, hle⟩
  by_contra hlt
  have h1 : s.slotByte k 1 = 0#8 := hzero 1 (by omega) (by unfold State.declaredSize; omega)
  rw [h1] at htype
  exact absurd htype (by decide)

/-- Locking and presenting an updated slot while there is no view. -/
theorem GoodState.present (h : GoodState s) (hv : s.txValid = false) {k r : Nat} (hk : s.updatedAt k = true)
    (h2 : 2 ≤ r) (hr : r ≤ s.declaredSize k) : GoodState ((s.lockSlot k).present k r) := by
  have hn := h.bounds.slotCount
  have hlen := h.bounds.maxLen
  have hkn : k < s.cfg.n := h.ranges.updated ▸ State.updatedAt_lt s hk
  obtain ⟨-, hcap, hmax⟩ := h.slots.declared k hk
  have hslot : (BitVec.ofNat 6 k).toNat = k := by rw [BitVec.toNat_ofNat]; omega
  have htxLen : (BitVec.ofNat 9 r).toNat = r := by
    unfold Cfg.maxFrame at hmax
    rw [BitVec.toNat_ofNat]
    omega
  have hlocked : ∀ j, (s.lockSlot k).lockedAt j = true ↔ j = k := by
    intro j
    rw [State.lockSlot_lockedAt]
    split
    · next hj => simp [hj.1]
    · next hj =>
      constructor
      · intro hl
        have := (h.slots.lockedView j hl).1
        rw [hv] at this
        cases this
      · exact fun hjk => absurd ⟨hjk, h.ranges.locked ▸ hkn⟩ hj
  refine ⟨{ h.ranges with locked := (List.length_set ..).trans h.ranges.locked, cursor := ?_ }, { h.framer with },
    { lockedUpdated := fun j hj => ?_
      declared := h.slots.declared
      lockedView := fun j hj => ⟨rfl, ?_⟩
      viewLocked := fun _ => ⟨rfl, ?_⟩
      viewLength := fun _ => ?_ }⟩
  · exact hslot.symm ▸ hkn
  · rw [(hlocked j).mp hj]
    exact hk
  · exact ((hlocked j).mp hj).trans hslot.symm
  · exact (hlocked _).mpr hslot
  · change 2 ≤ (BitVec.ofNat 9 r).toNat ∧ (BitVec.ofNat 9 r).toNat ≤ s.cfg.cap (BitVec.ofNat 6 k).toNat ∧
      (BitVec.ofNat 9 r).toNat ≤ s.cfg.maxFrame
    rw [hslot, htxLen]
    exact ⟨h2, by omega, by omega⟩

/-- In a good state NEXT_PAYLOAD never trims a slot to nothing, so it ends the view or presents a slot. -/
theorem NextCase.goodState (h : NextCase s t) (hs : GoodState s) : GoodState t := by
  have hrel := hs.release
  have htrim : ∀ {k r}, s.releaseCursor.lap = some k → (s.releaseCursor.lockSlot k).trim k = .ok r →
      2 ≤ r ∧ r ≤ s.releaseCursor.declaredSize k := by
    intro k r hlap htr
    have hbounds := State.two_le_of_trim htr (hrel.slots.declared k (State.lap_some hlap).2).1
    exact hbounds
  cases h with
  | nothing _ ht => rw [ht]; exact hrel.withUnread ..
  | zero k hlap htr _ => exact absurd (htrim hlap htr).1 (by decide)
  | view k r hlap htr _ ht =>
    obtain ⟨h2, hr⟩ := htrim hlap htr
    have hview := (hrel.present rfl (State.lap_some hlap).2 h2 hr).withUnread
    rw [ht]
    exact hview ..

/-- LINK_RESET clears every slot flag and ends the view. -/
theorem GoodState.clearFlags (h : GoodState s) : GoodState { s with
    updated := List.replicate s.cfg.n false, locked := List.replicate s.cfg.n false, txValid := false } :=
  h.endView List.length_replicate List.length_replicate
    (fun k hk => by rw [getD_replicate_false] at hk; cases hk) (getD_replicate_false _)

theorem CommandCase.goodState {i : Instr} (h : CommandCase s t i) (hs : GoodState s) : GoodState t := by
  cases h with
  | feed b hf => exact hf.goodState hs
  | next hn => exact hn.goodState hs
  | take _ ht => rw [ht]; exact hs.withUnread ..
  | linkrst ht => rw [ht]; exact hs.clearFlags.withUnread ..

/-! ### A locked standard slot -/

/-- While a standard slot is locked the classifier changes no byte of it: it stores no frame there, and one stored
elsewhere fits its own slot (R186). -/
theorem GoodState.classify_slotByte {route : Route} (h : GoodState s) (hmax : s.wbufFrame.size ≤ s.cfg.maxFrame)
    (hcl : Machine.classify s s.wbufFrame = .ok (t, route)) {k i : Nat} (hk : k < s.cfg.n - 2)
    (hlocked : s.lockedAt k = true) (hi : i < s.cfg.cap k) : t.slotByte k i = s.slotByte k i := by
  rcases classify_keeps_or_stores hcl with ht | ⟨ty, j, log, -, hstore, hw⟩
  · rw [ht]
    rfl
  · have hkj : k ≠ j := by
      rintro rfl
      rw [not_locked_of_storageOf_store hstore hk] at hlocked
      cases hlocked
    have hfit := size_le_cap_of_storageOf_store h.bounds hstore hmax
    exact State.slotWrite_slotByte_other hw h.ranges.arenaWf h.bounds (by rw [State.wbufFrame_length]; exact hfit)
      hkj (Nat.lt_of_lt_of_le hk (Nat.sub_le ..)) hi

theorem FeedCase.slotByte_of_locked {b : Byte} (h : FeedCase b s t) (hs : GoodState s) {k i : Nat}
    (hk : k < s.cfg.n - 2) (hlocked : s.lockedAt k = true) (hi : i < s.cfg.cap k) :
    t.slotByte k i = s.slotByte k i := by
  by_cases hv : completesValid b s
  · obtain ⟨s', route, hcnt, hsize, hcl, rfl⟩ := h.classified_of_valid hv
    exact (hs.completed hcnt).classify_slotByte hsize hcl hk hlocked hi
  · rw [h.frame_of_not_valid hv]
    rfl

end Sys2Proof.Machine

namespace Sys2Proof.StateFamily

open Sys2Proof Sys2Proof.Machine

/-- Settles O6: the step takes the reset input, and `State.fullReset` writes every element. -/
theorem fullResetSetsEveryElement : Obligations.FullResetSetsEveryElement := by
  unfold Obligations.FullResetSetsEveryElement
  intro s rest hwf hin
  have hstep : step s = .next (State.fullReset { s with inputs := rest }) := by rw [step_of_input hwf hin]; rfl
  exact ⟨_, hstep, rfl, rfl, rfl, fun _ => rfl, rfl, rfl, rfl, fun _ => rfl, rfl, rfl, rfl, rfl, rfl, rfl, rfl, rfl,
    rfl, rfl, rfl, rfl⟩

/-- Settles O10: no flag is set, the framer is idle and there is no view, so only the ranges of R30 are left to check;
the reference configuration is well-formed. -/
theorem resetStateIsGood : Obligations.ResetStateIsGood := by
  unfold Obligations.ResetStateIsGood
  have hreference : Cfg.reference.wf = true := by decide
  exact ⟨fun c h => GoodState.resetWith h, GoodState.resetWith hreference⟩

/-- Settles O14: no command writes the configuration, and full reset builds on the one it finds. -/
theorem configurationIsConstant : Obligations.ConfigurationIsConstant := by
  unfold Obligations.ConfigurationIsConstant
  intro s t h
  exact step_keeps (P := fun u => u.cfg = s.cfg) (fun _ _ _ hu => hu) (fun _ hu => hu)
    (fun _ _ _ hu hi => (exec_cases hi).cfg.trans hu) rfl h

/-- Settles O15: only NEXT_PAYLOAD locks a slot, one that its lap found updated, and what clears an `updated` flag
leaves the slot unlocked. -/
theorem lockedImpliesUpdated : Obligations.LockedImpliesUpdated := by
  unfold Obligations.LockedImpliesUpdated
  have hreset : ∀ c, (State.resetWith c).LocksUpdated := fun c k hk => by simp at hk
  refine ⟨hreset, fun s t hs h => ?_⟩
  exact step_keeps (P := State.LocksUpdated) (fun _ _ _ hu => hu) (fun u _ => hreset u.cfg)
    (fun _ _ _ hu hi => (exec_cases hi).locksUpdated hu) hs h

/-- Settles O17: the first entries agree, because a listed byte is never the one an unlisted address reads as; then
by induction on the entries. -/
theorem canonicalStoresAreExtensional : Obligations.CanonicalStoresAreExtensional := by
  unfold Obligations.CanonicalStoresAreExtensional
  exact fun m m' hm hm' hread => Memory.ext_of_wfFrom hm hm' hread

/-- Settles O40: FEED writes no byte of a locked standard slot, no `locked` flag, and clears no `updated` flag. -/
theorem lockedStandardSlotIsProtected : Obligations.LockedStandardSlotIsProtected := by
  unfold Obligations.LockedStandardSlotIsProtected
  intro s t b k hs hk hlocked h
  have hf := exec_feed_cases h
  have hkept := hf.kept
  exact ⟨fun i hi => hf.slotByte_of_locked hs hk hlocked hi, hkept.updated k (hs.slots.lockedUpdated k hlocked),
    (State.lockedAt_congr hkept.locked k).trans hlocked⟩

/-- Settles O54: `LatchesWritten` lists the ways a latch can be left; one that changed is not kept. -/
theorem latchesChangeOnlyByFrameAndTake : Obligations.LatchesChangeOnlyByFrameAndTake := by
  unfold Obligations.LatchesChangeOnlyByFrameAndTake
  intro i s t h
  have hw := (exec_cases h).latchesWritten
  exact ⟨hw.boot.resolve_left, hw.bind.resolve_left, hw.mm.resolve_left, hw.ping.resolve_left, hw.mmId.resolve_left⟩

/-- Settles O56: `FlagsWritten` lists the ways a flag can be left; one that changed was written. -/
theorem slotFlagsHaveTheirWriters : Obligations.SlotFlagsHaveTheirWriters := by
  unfold Obligations.SlotFlagsHaveTheirWriters
  intro i s t k h
  have hw := (exec_cases h).flagsWritten k
  exact ⟨fun h0 h1 => (hw.updatedSet h1).resolve_left (by simp [h0]),
    fun h1 h0 => (hw.updatedCleared h0).resolve_left (by simp [h1]),
    fun h0 h1 => (hw.lockedSet h1).resolve_left (by simp [h0]),
    fun h1 h0 => (hw.lockedCleared h0).resolve_left (by simp [h1])⟩

/-- Settles O57: `CommandCase.frame_of_not_feed` names every field such a command writes. -/
theorem onlyFeedChangesTheReceiveSide : Obligations.OnlyFeedChangesTheReceiveSide := by
  unfold Obligations.OnlyFeedChangesTheReceiveSide
  intro i s t h hi
  rw [(exec_cases h).frame_of_not_feed hi]
  exact ⟨rfl, rfl, fun _ => rfl, rfl, fun _ => rfl, rfl, rfl, rfl, rfl⟩

/-- Settles O58: `FeedKept` for every FEED, and `FeedCase.frame_of_not_valid` for one that completes no valid frame. -/
theorem feedLeavesTheTransmitSide : Obligations.FeedLeavesTheTransmitSide := by
  unfold Obligations.FeedLeavesTheTransmitSide
  intro b s t h
  have hf := exec_feed_cases h
  have hk := hf.kept
  refine ⟨hk.locked, hk.cursor, hk.txValid, hk.txSlot, hk.txLen, hk.cfg, hk.inputs, fun hv => ?_⟩
  rw [hf.frame_of_not_valid hv]
  exact ⟨⟨fun _ => rfl, rfl, rfl⟩, ⟨rfl, rfl, rfl, rfl, rfl⟩, rfl⟩

/-- Settles O11: full reset and each command keep the invariant, which does not depend on the inputs and the
response. -/
theorem everyStepKeepsGoodState : Obligations.EveryStepKeepsGoodState := by
  unfold Obligations.EveryStepKeepsGoodState
  intro s t hs h
  have hreset : ∀ u, GoodState u → GoodState u.fullReset :=
    fun u hu => (GoodState.resetWith hu.ranges.cfg).withUnread ..
  exact step_keeps (fun _ _ _ hu => hu.withUnread ..) hreset (fun _ _ _ hu hi => (exec_cases hi).goodState hu) hs h

end Sys2Proof.StateFamily

/-! ## 20_memory: the slots in the arena, and that no input stops the block

Every fault of the model is an access outside the working buffer, the slot table or the arena (log 11). Each operation
comes with a lemma that it completes where its accesses exist; `GoodState` gives that they do. -/

namespace Sys2Proof

/-! ### Where the slots lie -/

theorem Cfg.base_zero (c : Cfg) : c.base 0 = 0 := rfl

theorem Cfg.base_succ {c : Cfg} (h : c.Bounds) {k : Nat} (hk : k < c.n) : c.base (k + 1) = c.base k + c.cap k := by
  have hlen : k < c.caps.length := by rw [Cfg.length_caps h]; exact hk
  calc c.base (k + 1) = (c.caps.take k).sum + c.caps[k] := List.sum_take_succ _ _ hlen
    _ = c.base k + c.cap k := by rw [Cfg.cap, List.getD_eq_getElem _ _ hlen, Cfg.base]

end Sys2Proof

namespace Sys2Proof.Machine

variable {s : State}

theorem outcome_completes {r : Except Fault State} (h : ∃ t, r = .ok t) : ∃ t, outcome r = .next t := by
  obtain ⟨t, rfl⟩ := h
  exact ⟨t, rfl⟩

/-! ### FEED completes -/

/-- A frame is stored in a slot of the table (R178, R185). -/
theorem lt_of_storageOf_store {f : Frame} {ty : Byte} {k : Nat} (hc : s.cfg.Bounds)
    (h : storageOf s f ty = .store k) : k < s.cfg.n := by
  have hn := hc.slotCount
  have hstd := hc.stdCount
  rcases storageOf_store h with (rfl | rfl) | ⟨hk, -, -⟩
  · unfold Cfg.res1; omega
  · unfold Cfg.res2; omega
  · omega

/-- The classifier completes on the frame of the working buffer: the slot chosen for it holds it, and lies in the
arena. -/
theorem classify_completes (hc : s.cfg.Bounds) (hmax : s.wbufFrame.size ≤ s.cfg.maxFrame) :
    ∃ t route, classify s s.wbufFrame = .ok (t, route) := by
  unfold classify
  split
  · exact ⟨_, _, rfl⟩
  · next ty _ =>
    split
    · exact ⟨_, _, rfl⟩
    · unfold State.applyStorage
      split
      · exact ⟨_, _, rfl⟩
      · next k hstore =>
        have hk : k < s.cfg.n := lt_of_storageOf_store hc hstore
        have hfit : s.cfg.base k + s.wbufFrame.bytes.length ≤ s.cfg.arenaSize := by
          have hsize := size_le_cap_of_storageOf_store hc hstore hmax
          have harena := Cfg.slot_in_arena hc hk
          rw [State.wbufFrame_length]
          omega
        rw [← (State.forwardMsp_kept s s.wbufFrame ty).cfg] at hk hfit
        rw [State.slotWrite_inside hk hfit]
        exact ⟨_, _, rfl⟩

theorem completeFrame_completes (b : Byte) (hc : s.cfg.Bounds) (hmax : s.wbufFrame.size ≤ s.cfg.maxFrame) :
    ∃ t, completeFrame b s = .ok t := by
  obtain ⟨s', route, hcl⟩ := classify_completes hc hmax
  by_cases hb : b = frameCrc s.cfg s.wbufFrame
  · exact ⟨s'.countFrame.respond .ok true true route 0#32, by simp [completeFrame, hmax, ← hb, hcl]⟩
  · exact ⟨s.reportError .eCrc, by simp [completeFrame, hmax, hb]⟩

theorem feedIdle_completes (b : Byte) (s : State) : ∃ t, feedIdle b s = .ok t := by
  unfold feedIdle
  split
  · rw [State.writeWbuf_inside b (show 0 < s.cfg.maxFrame from Nat.succ_pos _)]
    exact ⟨_, rfl⟩
  · exact ⟨_, rfl⟩

theorem feedLength_completes (b : Byte) (hc : s.cfg.Bounds) : ∃ t, feedLength b s = .ok t := by
  have hlen := hc.maxLen
  unfold feedLength
  split
  · exact ⟨_, rfl⟩
  · rw [State.writeWbuf_inside b (show 1 < s.cfg.maxFrame by unfold Cfg.maxFrame; omega)]
    exact ⟨_, rfl⟩

/-- In RX_DATA the byte goes inside the working buffer, and so does the frame it completes: the declared length is one
that RX_LEN accepts, and the count is below it (R151). -/
theorem feedData_completes (b : Byte) (h : GoodState s) (hf : s.fsm = .rxData) : ∃ t, feedData b s = .ok t := by
  have hcount := h.framer.count hf
  obtain ⟨-, hlength⟩ := h.framer.length hf
  have hin : 2 + s.cnt.toNat < s.cfg.maxFrame := by unfold Cfg.maxFrame; omega
  have hread : (s.completed b).wbuf.read 1 = s.wbuf.read 1 := by
    rw [State.completed, Memory.read_write _ _ _ h.ranges.wbufWf, if_neg (by omega)]
  have hmax : (s.completed b).wbufFrame.size ≤ (s.completed b).cfg.maxFrame := by
    change ((s.completed b).wbuf.read 1).toNat + 2 ≤ s.cfg.maxLen + 1
    rw [hread]
    omega
  unfold feedData
  rw [State.writeWbuf_inside b hin]
  dsimp only
  split
  · exact completeFrame_completes (s := s.completed b) b h.bounds hmax
  · exact ⟨_, rfl⟩

theorem exec_feed_completes (b : Byte) (h : GoodState s) : ∃ t, exec (.feed b) s = .next t := by
  change ∃ t, execFeed b s = .next t
  unfold execFeed
  split
  · exact outcome_completes (feedIdle_completes b s)
  · exact outcome_completes (feedLength_completes b h.bounds)
  · next hf => exact outcome_completes (feedData_completes b h hf)

/-! ### NEXT_PAYLOAD and READ_TX complete -/

/-- The trim of a slot whose declared frame lies in the arena succeeds. -/
theorem State.trim_inside {k : Nat} (hk : k < s.cfg.n) (ha : s.cfg.base k + s.declaredSize k ≤ s.cfg.arenaSize) :
    s.trim k = .ok (s.trimZeros k (s.declaredSize k)) := by
  have hlength : s.cfg.base k + 1 < s.cfg.arenaSize := by unfold State.declaredSize at ha; omega
  simp [State.trim, hk, ha, hlength]

theorem State.selectSlot_completes {k : Nat} (hk : k < s.cfg.n)
    (ha : s.cfg.base k + s.declaredSize k ≤ s.cfg.arenaSize) : ∃ t, s.selectSlot k = .ok t := by
  unfold State.selectSlot
  rw [State.trim_inside (s := s.lockSlot k) hk ha]
  split
  · next htrim => cases htrim
  · exact ⟨_, rfl⟩
  · exact ⟨_, rfl⟩

/-- The slot that the lap stops at is updated, so its declared frame fits it (R225). -/
theorem exec_next_completes (h : GoodState s) : ∃ t, exec .next s = .next t := by
  refine outcome_completes (r := s.releaseCursor.advance) ?_
  have hrel := h.release
  unfold State.advance
  split
  · exact ⟨_, rfl⟩
  · next k hlap =>
    obtain ⟨hk, hupdated⟩ := State.lap_some hlap
    have hfit : s.releaseCursor.declaredSize k ≤ s.releaseCursor.cfg.cap k := (hrel.slots.declared k hupdated).2.1
    have harena := Cfg.slot_in_arena hrel.bounds hk
    exact State.selectSlot_completes hk (Nat.le_trans (Nat.add_le_add_left hfit _) harena)

/-- A read of a slot's byte in the arena succeeds. -/
theorem State.readSlotByte_inside {k i : Nat} (hk : k < s.cfg.n) (ha : s.cfg.base k + i < s.cfg.arenaSize) :
    s.readSlotByte k i = .ok (s.slotByte k i) := by
  simp [State.readSlotByte, hk, ha]

/-- The view lies inside its slot (R225), so READ_TX inside the view reads inside the arena. -/
theorem exec_rdtx_completes (i : Byte) (h : GoodState s) : ∃ t, exec (.rdtx i) s = .next t := by
  change ∃ t, execRdtx i s = .next t
  unfold execRdtx
  split
  · exact ⟨_, rfl⟩
  · next hview =>
    obtain ⟨hvalid, hi⟩ := not_or.mp hview
    have hv : s.txValid = true := by simpa using hvalid
    have hslot : s.txSlot.toNat < s.cfg.n := h.ranges.locked ▸ State.lockedAt_lt s (h.slots.viewLocked hv).2
    have hcap := (h.slots.viewLength hv).2.1
    have harena := Cfg.slot_in_arena h.bounds hslot
    refine outcome_completes ?_
    unfold State.readView
    split
    · exact ⟨_, rfl⟩
    · rw [State.readSlotByte_inside hslot (by omega)]
      exact ⟨_, rfl⟩

/-! ### Every step of every run completes -/

theorem exec_completes (i : Instr) (h : GoodState s) : ∃ t, exec i s = .next t := by
  cases i with
  | feed b => exact exec_feed_completes b h
  | next => exact exec_next_completes h
  | rdtx i => exact exec_rdtx_completes i h
  | takeBoot | takeBind | takeMm | takePing | cntUpd | cntRx | linkrst => exact ⟨_, rfl⟩

theorem acceptInput_completes (input : Input) (h : GoodState s) : ∃ t, acceptInput input s = .next t := by
  cases input with
  | fullReset => exact ⟨_, rfl⟩
  | command w =>
    change ∃ t, acceptCommand w s = .next t
    unfold acceptCommand
    split
    · next i _ => exact exec_completes i h
    · exact ⟨_, rfl⟩

theorem step_completes (h : GoodState s) : ∃ t, step s = .next t := by
  cases hin : s.inputs with
  | nil => exact ⟨_, step_of_no_input h.ranges.cfg hin⟩
  | cons input rest =>
    have hrest : GoodState { s with inputs := rest } := h.withUnread ..
    rw [step_of_input h.ranges.cfg hin]
    exact acceptInput_completes input hrest

/-- A property in which the machine always steps, and which every step keeps, holds after any number of steps. -/
theorem run_of_step_keeps {M : Host.Core} {P : M.State → Prop} (hstep : ∀ u, P u → ∃ v, M.step u = .next v)
    (hkeep : ∀ u v, P u → M.step u = .next v → P v) (k : Nat) {u : M.State} (hu : P u) :
    ∃ v, M.run k u = .next v ∧ P v := by
  induction k generalizing u with
  | zero => exact ⟨u, rfl, hu⟩
  | succ k ih =>
    obtain ⟨v, hv⟩ := hstep u hu
    have hrun : M.run (k + 1) u = M.run k v := by simp only [Host.Core.run, hv]
    rw [hrun]
    exact ih (hkeep u v hu hv)

end Sys2Proof.Machine

namespace Sys2Proof.MemoryFamily

open Sys2Proof Sys2Proof.Machine

/-- Settles O9: a base is the sum of the capacities before it, so it grows by one capacity from slot to slot, and R7(e)
bounds the sum of all. -/
theorem slotsPartitionTheArena : Obligations.SlotsPartitionTheArena := by
  unfold Obligations.SlotsPartitionTheArena
  have hreference : (List.range 5).map Cfg.reference.base = [0, 19, 31, 47, 112] := by decide
  refine ⟨fun c hwf => ?_, hreference⟩
  have hc := Cfg.Bounds.of_wf hwf
  exact ⟨c.base_zero, fun k hk => Cfg.base_succ hc (Nat.lt_of_succ_lt hk),
    fun k j hkj hj => Cfg.slot_end_le_base hc hkj hj, fun k hk => Cfg.slot_in_arena hc hk⟩

/-- Settles O13: the state after full reset is good whatever inputs are to come; from a good state every step completes
(`step_completes`) in a good state (O11). -/
theorem noInputSequenceStopsTheBlock : Obligations.NoInputSequenceStopsTheBlock := by
  unfold Obligations.NoInputSequenceStopsTheBlock
  intro c inputs k hwf
  have hgood : GoodState { State.resetWith c with inputs := inputs } := (GoodState.resetWith hwf).withUnread ..
  exact run_of_step_keeps (M := core) (fun _ hu => step_completes hu) StateFamily.everyStepKeepsGoodState k hgood

end Sys2Proof.MemoryFamily

/-! ## 30_encoding: the words, the responses, and the frame that the bytes fed make

A word is its three fields, and the decoder branches on them. Every response is built from a status code and a route
code. FEED collects a frame in the working buffer, which holds exactly the bytes fed. -/

namespace Sys2Proof

/-! ### The fields of a word (R106) -/

@[simp] theorem opField_commandWord (op : BitVec 4) (imm8 : Byte) : opField (commandWord op imm8) = op := by
  rw [opField, commandWord, BitVec.extractLsb'_append_eq_of_le (by decide),
    BitVec.extractLsb'_append_eq_of_le (by decide), BitVec.extractLsb'_eq_self]

@[simp] theorem zField_commandWord (op : BitVec 4) (imm8 : Byte) : zField (commandWord op imm8) = 0#4 := by
  rw [zField, commandWord, BitVec.extractLsb'_append_eq_of_le (by decide),
    BitVec.extractLsb'_append_eq_of_add_le (by decide), BitVec.extractLsb'_eq_self]

@[simp] theorem imm8Field_commandWord (op : BitVec 4) (imm8 : Byte) : imm8Field (commandWord op imm8) = imm8 := by
  rw [imm8Field, commandWord, BitVec.extractLsb'_append_eq_of_add_le (by decide), BitVec.extractLsb'_eq_self]

/-- The three fields of R106 are all of the word. -/
theorem fields_append (w : CommandWord) : (opField w ++ zField w) ++ imm8Field w = w := by
  rw [opField, zField, imm8Field, BitVec.extractLsb'_append_extractLsb'_eq_extractLsb' (by decide),
    BitVec.extractLsb'_append_extractLsb'_eq_extractLsb' (by decide), BitVec.extractLsb'_eq_self]

theorem eq_commandWord_of_zField {w : CommandWord} (hz : zField w = 0#4) :
    w = commandWord (opField w) (imm8Field w) := by
  rw [commandWord, ← hz, fields_append]

/-! ### Decoding (R116) -/

theorem encode_of_plainOp {op : BitVec 4} {i : Instr} (h : plainOp op = some i) : encode i = commandWord op 0#8 := by
  unfold plainOp at h
  split_ifs at h with hop hop hop hop hop hop hop hop <;> cases h <;> rw [hop, encode]

/-- The values of `op` that name no operation without operand: the two with operand, and the unassigned ones. -/
theorem plainOp_eq_none_iff (op : BitVec 4) :
    plainOp op = none ↔ op = 0x1#4 ∨ op = 0x3#4 ∨ op = 0x0#4 ∨ 0xB#4 ≤ op := by
  revert op
  decide

/-- What the decoder can answer, one case for each branch of R116. -/
inductive DecodeCase (w : CommandWord) : Except IllegalWord Instr → Prop
  | feed : zField w = 0#4 → opField w = 0x1#4 → DecodeCase w (.ok (.feed (imm8Field w)))
  | rdtx : zField w = 0#4 → opField w = 0x3#4 → DecodeCase w (.ok (.rdtx (imm8Field w)))
  | plain (i : Instr) : zField w = 0#4 → plainOp (opField w) = some i → imm8Field w = 0#8 → DecodeCase w (.ok i)
  | nonzeroZ : zField w ≠ 0#4 → DecodeCase w (.error .nonzeroZ)
  | nonzeroImm8 (i : Instr) : plainOp (opField w) = some i → imm8Field w ≠ 0#8 →
      DecodeCase w (.error .nonzeroImm8)
  | unassignedOp : opField w ≠ 0x1#4 → opField w ≠ 0x3#4 → plainOp (opField w) = none →
      DecodeCase w (.error .unassignedOp)

theorem decode_cases (w : CommandWord) : DecodeCase w (decode w) := by
  unfold decode
  split
  · next hz => exact .nonzeroZ hz
  · next hz =>
    have hz : zField w = 0#4 := not_not.mp hz
    split
    · next hfeed => exact .feed hz hfeed
    · next hfeed =>
      split
      · next hrdtx => exact .rdtx hz hrdtx
      · next hrdtx =>
        split
        · next hop => exact .unassignedOp hfeed hrdtx hop
        · next i hop =>
          split
          · next himm => exact .nonzeroImm8 i hop himm
          · next himm => exact .plain i hz hop (not_not.mp himm)

theorem decode_encode (i : Instr) : decode (encode i) = .ok i := by
  cases i with
  | feed b | rdtx b => simp [decode, encode]
  | next | takeBoot | takeBind | takeMm | takePing | cntUpd | cntRx | linkrst => decide

theorem eq_encode_of_decode {w : CommandWord} {i : Instr} (h : decode w = .ok i) : w = encode i := by
  have hcase := decode_cases w
  rw [h] at hcase
  cases hcase with
  | feed hz hop | rdtx hz hop => rw [encode, ← hop]; exact eq_commandWord_of_zField hz
  | plain _ hz hop himm => rw [encode_of_plainOp hop, ← himm]; exact eq_commandWord_of_zField hz

/-! ### The illegal words (R109) -/

/-- The model's check of R109, as a condition on the fields. -/
theorem CommandWord.illegal_iff (w : CommandWord) : w.illegal = true ↔
    opField w = 0x0#4 ∨ 0xB#4 ≤ opField w ∨ zField w ≠ 0#4 ∨
      (imm8Field w ≠ 0#8 ∧ opField w ≠ 0x1#4 ∧ opField w ≠ 0x3#4) := by
  simp [CommandWord.illegal, opField, zField, imm8Field, or_assoc, and_assoc]

theorem encode_shape (i : Instr) : Laws.EncodingShape.Statement i := by
  cases i with
  | feed b => exact Laws.EncodingShape.feed b
  | next => exact Laws.EncodingShape.next
  | rdtx i => exact Laws.EncodingShape.rdtx i
  | takeBoot => exact Laws.EncodingShape.takeBoot
  | takeBind => exact Laws.EncodingShape.takeBind
  | takeMm => exact Laws.EncodingShape.takeMm
  | takePing => exact Laws.EncodingShape.takePing
  | cntUpd => exact Laws.EncodingShape.cntUpd
  | cntRx => exact Laws.EncodingShape.cntRx
  | linkrst => exact Laws.EncodingShape.linkrst

theorem encode_legal (i : Instr) : ¬ CommandWord.illegal (encode i) = true := by
  obtain ⟨hz, hlow, hhigh, himm⟩ := encode_shape i
  rw [CommandWord.illegal_iff]
  rintro (h0 | hB | hz' | ⟨himm', h1, h3⟩)
  · rw [h0] at hlow; exact absurd hlow (by decide)
  · exact absurd (BitVec.le_trans hB hhigh) (by decide)
  · exact hz' hz
  · exact (himm himm').elim h1 h3

theorem illegal_of_decode_error {w : CommandWord} {e : IllegalWord} (h : decode w = .error e) :
    w.illegal = true := by
  have hcase := decode_cases w
  rw [h] at hcase
  rw [CommandWord.illegal_iff]
  cases hcase with
  | nonzeroZ hz => exact .inr (.inr (.inl hz))
  | nonzeroImm8 i hop himm =>
    have hassigned := mt (plainOp_eq_none_iff (opField w)).mpr (by simp [hop])
    exact .inr (.inr (.inr ⟨himm, fun h1 => hassigned (.inl h1), fun h3 => hassigned (.inr (.inl h3))⟩))
  | unassignedOp h1 h3 hop =>
    rcases (plainOp_eq_none_iff (opField w)).mp hop with h | h | h0 | hB
    · exact absurd h h1
    · exact absurd h h3
    · exact .inl h0
    · exact .inr (.inl hB)

theorem decode_error_iff (w : CommandWord) : (∃ e, decode w = .error e) ↔ w.illegal = true := by
  refine ⟨fun ⟨e, he⟩ => illegal_of_decode_error he, fun hill => ?_⟩
  cases hd : decode w with
  | error e => exact ⟨e, rfl⟩
  | ok i =>
    rw [eq_encode_of_decode hd] at hill
    exact absurd hill (encode_legal i)

/-! ### The CRC -/

/-- The CRC reads the bytes it is given the number of, and none behind them (R10, R11). -/
theorem Cfg.crc8_append (c : Cfg) (xs ys : List Byte) : c.crc8 (xs ++ ys) xs.length = c.crc8 xs xs.length := by
  simp [Cfg.crc8]

end Sys2Proof

namespace Sys2Proof.Machine

variable {s t : State}

/-! ### The codes of a response (R112, R113) -/

theorem Status.code_le (st : Status) : st.code.toNat ≤ 6 := by
  cases st <;> decide

theorem Route.code_slot {k : Nat} (h : k < 64) : (Route.slot k).code.toNat = 0x40 + k := by
  rw [Route.code, BitVec.toNat_ofNat]
  omega

/-- R113 lists the code of every route that stays inside a table of `n` slots. -/
theorem Route.code_listed {route : Route} {n : Nat} (hn : n ≤ 64) (hslot : ∀ k, route = .slot k → k < n) :
    route.code ∈ [0x00#8, 0x01#8, 0x02#8, 0x03#8, 0x04#8, 0x10#8, 0x11#8, 0x12#8, 0x13#8, 0x14#8] ∨
      ∃ k, k < n ∧ route.code.toNat = 0x40 + k := by
  cases route with
  | slot k =>
    have hk := hslot k rfl
    exact .inr ⟨k, hk, Route.code_slot (Nat.lt_of_lt_of_le hk hn)⟩
  | none | boot | bind | mm | ping | dShort | dNoMatch | dLocked | dOversize | dBothBusy => left; decide

theorem routeExtended_drop {f : Frame} {ty : Byte} {route : Route} (h : routeExtended s f ty = .drop route) :
    route = .dShort ∨ route = .dBothBusy := by
  unfold routeExtended at h
  split at h <;> split at h
  · cases h; exact .inl rfl
  · split at h <;> cases h
  · cases h; exact .inl rfl
  · split at h
    · split at h
      · split at h <;> cases h
        exact .inr rfl
      · cases h
    · cases h

theorem routeStandard_drop {f : Frame} {ty : Byte} {route : Route} (h : routeStandard s f ty = .drop route) :
    route = .dNoMatch ∨ route = .dLocked ∨ route = .dOversize := by
  unfold routeStandard at h
  split at h
  · cases h; exact .inl rfl
  · split at h
    · cases h; exact .inr (.inl rfl)
    · split at h <;> cases h
      exact .inr (.inr rfl)

/-- A drop is reported as a drop, never as a slot (R113, R302). -/
theorem storageOf_ne_drop_slot {f : Frame} {ty : Byte} {k : Nat} : storageOf s f ty ≠ .drop (.slot k) := by
  unfold storageOf
  split
  · intro h
    rcases routeExtended_drop h with h | h <;> cases h
  · intro h
    rcases routeStandard_drop h with h | h | h <;> cases h

/-- The classifier reports a slot of the table only. -/
theorem classify_slot_lt {f : Frame} {k : Nat} (h : classify s f = .ok (t, .slot k)) : k < s.cfg.n := by
  rcases classify_cases h with ⟨-, -, hroute⟩ | ⟨-, ctl, -, -, -, hroute⟩ | ⟨ty, -, -, happly⟩
  · cases hroute
  · cases ctl <;> cases hroute
  · rcases State.applyStorage_cases happly with ⟨hdrop, -⟩ | ⟨j, -, hroute, hw⟩
    · exact absurd hdrop storageOf_ne_drop_slot
    · cases hroute
      rw [← (State.forwardMsp_kept s f ty).cfg]
      exact (State.slotWrite_ok hw).1

/-! ### What a command answers (R111) -/

/-- A command that completes no CRC-valid frame answers without the frame-done signal and with no route. -/
theorem exec_rsp_of_not_receivesValid {i : Instr} (h : exec i s = .next t) (hv : ¬ ReceivesValid i s) :
    ∃ (st : Status) (ok : Bool) (data : BitVec 32), t.rsp = some ⟨st.code, ok, false, Route.none.code, data⟩ := by
  cases i with
  | feed b =>
    cases exec_feed_cases h with
    | sync _ _ ht | length _ _ _ ht | data _ _ _ ht => exact ⟨.ok, _, _, by rw [ht]; rfl⟩
    | notSync _ _ ht => exact ⟨.eSync, _, _, by rw [ht]; rfl⟩
    | badLength _ _ ht => exact ⟨.eLength, _, _, by rw [ht]; rfl⟩
    | badCrc _ _ _ ht => exact ⟨.eCrc, _, _, by rw [ht]; rfl⟩
    | valid _ _ hvalid => exact absurd ⟨b, rfl, hvalid⟩ hv
  | next =>
    rcases exec_next_cases h with ⟨-, rfl⟩ | ⟨k, -, -, rfl⟩ | ⟨k, r, -, -, -, rfl⟩
    · exact ⟨.empty, _, _, rfl⟩
    · exact ⟨.empty, _, _, rfl⟩
    · exact ⟨.ok, _, _, rfl⟩
  | rdtx i =>
    rcases exec_rdtx_cases h with ⟨-, rfl⟩ | ⟨-, ⟨-, rfl⟩ | ⟨-, rfl⟩⟩
    · exact ⟨.eRange, _, _, rfl⟩
    · exact ⟨.ok, _, _, rfl⟩
    · exact ⟨.ok, _, _, rfl⟩
  | takeBoot | takeBind | takeMm | takePing | cntUpd | cntRx | linkrst => cases h; exact ⟨.ok, _, _, rfl⟩

/-- The FEED that completes a CRC-valid frame answers with the frame-done signal and the classifier's route. -/
theorem exec_rsp_of_receivesValid {i : Instr} (h : exec i s = .next t) (hv : ReceivesValid i s) :
    ∃ route : Route, t.rsp = some ⟨Status.ok.code, true, true, route.code, 0#32⟩ ∧
      ∀ k, route = .slot k → k < s.cfg.n := by
  obtain ⟨b, rfl, hvalid⟩ := hv
  obtain ⟨s', route, -, -, hcl, rfl⟩ := (exec_feed_cases h).classified_of_valid hvalid
  refine ⟨route, rfl, ?_⟩
  rintro k rfl
  exact classify_slot_lt (s := s.completed b) hcl

/-! ### The bytes in the working buffer -/

theorem Memory.readBytes_succ (m : Memory) (a n : Nat) :
    m.readBytes a (n + 1) = m.readBytes a n ++ [m.read (a + n)] := by
  simp [Memory.readBytes, List.range_succ]

theorem Memory.readBytes_zero_eq_map (m : Memory) (n : Nat) : m.readBytes 0 n = (List.range n).map m.read := by
  simp [Memory.readBytes]

/-- A string is followed by the byte written behind it. -/
theorem Memory.readBytes_write_end (m : Memory) (a n : Nat) (b : Byte) (hm : m.wf = true) :
    (m.write (a + n) b).readBytes a (n + 1) = m.readBytes a n ++ [b] := by
  have hbefore : (m.write (a + n) b).readBytes a n = m.readBytes a n := by
    refine List.map_congr_left fun i hi => ?_
    rw [List.mem_range] at hi
    rw [Memory.read_write m _ _ hm, if_neg (by omega)]
  rw [Memory.readBytes_succ, hbefore, Memory.read_write m _ _ hm, if_pos rfl]

/-- The bytes collected so far: the sync byte, the length byte and the `cnt` data bytes (R32, R33). -/
def State.collected (s : State) : List Byte := s.wbuf.readBytes 0 (s.cnt.toNat + 2)

/-- A data byte goes behind the bytes collected (R143). -/
theorem State.readBytes_append_data (hwf : s.wbuf.wf = true) (b : Byte) :
    (s.wbuf.write (2 + s.cnt.toNat) b).readBytes 0 (s.cnt.toNat + 2 + 1) = s.collected ++ [b] := by
  have hend := Memory.readBytes_write_end s.wbuf 0 (s.cnt.toNat + 2) b hwf
  rwa [show 0 + (s.cnt.toNat + 2) = 2 + s.cnt.toNat by omega] at hend

/-- A data byte leaves the length byte (R143). -/
theorem State.lengthByte_append_data (hwf : s.wbuf.wf = true) (b : Byte) :
    (s.wbuf.write (2 + s.cnt.toNat) b).read 1 = s.wbuf.read 1 := by
  rw [Memory.read_write _ _ _ hwf, if_neg (by omega)]

/-- In RX_DATA of a good state a byte completes a frame exactly when it is the last one declared (R144). -/
theorem GoodState.completes_iff (h : GoodState s) (hf : s.fsm = .rxData) (b : Byte) :
    completes b s ↔ s.cnt.toNat + 1 = (s.wbuf.read 1).toNat := by
  have hcount := h.framer.count hf
  unfold completes
  rw [State.lengthByte_append_data h.ranges.wbufWf]
  constructor
  · rintro ⟨-, hc⟩
    bv_omega
  · intro hc
    exact ⟨hf, by bv_omega⟩

theorem completedFrame_len (hwf : s.wbuf.wf = true) (b : Byte) :
    (completedFrame b s).len = (s.wbuf.read 1).toNat :=
  congrArg BitVec.toNat (State.lengthByte_append_data hwf b)

/-- The completed frame is the bytes collected and the byte that completes it (R144, R170). -/
theorem GoodState.completedFrame_bytes (h : GoodState s) {b : Byte} (hc : completes b s) :
    (completedFrame b s).bytes = s.collected ++ [b] := by
  have hlen : s.cnt.toNat + 1 = (s.wbuf.read 1).toNat := (h.completes_iff hc.1 b).mp hc
  calc (completedFrame b s).bytes
      = (s.wbuf.write (2 + s.cnt.toNat) b).readBytes 0 ((completedFrame b s).len + 2) := rfl
    _ = (s.wbuf.write (2 + s.cnt.toNat) b).readBytes 0 (s.cnt.toNat + 2 + 1) := by
        rw [completedFrame_len h.ranges.wbufWf, ← hlen]
    _ = s.collected ++ [b] := State.readBytes_append_data h.ranges.wbufWf b

/-! ### A frame fed byte by byte (R115, R141 to R143) -/

/-- The pseudo-instruction `frame` feeds the CRC last (R115(a)). -/
theorem asmFrame_eq_append (c : Cfg) (sync ty : Byte) (payload : List Byte) :
    asmFrame c sync ty payload =
      asmBytes (sync :: BitVec.ofNat 8 (payload.length + 2) :: ty :: payload) ++
        [.feed (c.crc8 (ty :: payload) (ty :: payload).length)] := by
  simp [asmFrame, asmBytes]

theorem runCommands_append {is js : List Instr} (h : runCommands is s = .next t) :
    runCommands (is ++ js) s = runCommands js t := by
  induction is generalizing s with
  | nil => cases h; rfl
  | cons i is ih =>
    cases hi : exec i s with
    | next u =>
      simp only [runCommands, List.cons_append, hi] at h ⊢
      exact ih h
    | fault e | refused e => simp only [runCommands, hi] at h; cases h

theorem exec_feed_of_sync {b : Byte} (hf : s.fsm = .idle) (hb : s.cfg.isSync b = true) :
    exec (.feed b) s = .next (State.respondOk { s with wbuf := s.wbuf.write 0 b, fsm := .rxLen } 0#32) := by
  have hin : 0 < s.cfg.maxFrame := Nat.succ_pos _
  simp [exec, execFeed, hf, feedIdle, hb, State.writeWbuf_inside b hin, outcome]

theorem exec_feed_of_length {b : Byte} (hf : s.fsm = .rxLen) (hlt : b.toNat < s.cfg.maxLen) (hb : b ≠ 0#8) :
    exec (.feed b) s =
      .next (State.respondOk { s with wbuf := s.wbuf.write 1 b, cnt := 0#8, fsm := .rxData } 0#32) := by
  have hin : 1 < s.cfg.maxFrame := by unfold Cfg.maxFrame; omega
  simp [exec, execFeed, hf, feedLength, Nat.not_le.mpr hlt, hb, State.writeWbuf_inside b hin, outcome]

/-- A byte that is appended and completes nothing (R143). -/
theorem FeedCase.eq_of_data {b : Byte} (h : FeedCase b s t) (hf : s.fsm = .rxData) (hn : ¬ completes b s) :
    t = State.respondOk { s with wbuf := s.wbuf.write (2 + s.cnt.toNat) b, cnt := s.cnt + 1#8 } 0#32 := by
  cases h with
  | sync hf' | notSync hf' | length hf' | badLength hf' => rw [hf] at hf'; cases hf'
  | data _ _ _ ht => exact ht
  | badCrc hc => exact absurd hc hn
  | valid _ _ hv => exact absurd hv.1 hn

/-- In `u` the framer is collecting the data of a frame of declared length `len` and holds `bytes` of it; no frame was
counted since `s`. -/
structure Collecting (s u : State) (len : Nat) (bytes : List Byte) : Prop where
  good : GoodState u
  fsm : u.fsm = .rxData
  length : (u.wbuf.read 1).toNat = len
  bytes : u.collected = bytes
  cfg : u.cfg = s.cfg
  rxCount : u.rxCount = s.rxCount

variable {u : State} {len : Nat} {bytes : List Byte}

theorem Collecting.length_bytes (h : Collecting s u len bytes) : bytes.length = u.cnt.toNat + 2 := by
  rw [← h.bytes]
  exact Memory.length_readBytes ..

theorem Collecting.completes_iff (h : Collecting s u len bytes) (b : Byte) :
    completes b u ↔ bytes.length = len + 1 := by
  rw [h.good.completes_iff h.fsm, h.length, h.length_bytes]
  omega

/-- The header of a frame starts the collecting (R141, R142). -/
theorem collecting_of_header {sync l : Byte} (hs : GoodState s) (hf : s.fsm = .idle)
    (hsync : s.cfg.isSync sync = true) (hlt : l.toNat < s.cfg.maxLen) (hl : l ≠ 0#8) :
    ∃ u, runCommands (asmBytes [sync, l]) s = .next u ∧ Collecting s u l.toNat [sync, l] := by
  have hfirst := exec_feed_of_sync hf hsync
  have hsecond := exec_feed_of_length
    (s := State.respondOk { s with wbuf := s.wbuf.write 0 sync, fsm := .rxLen } 0#32) rfl hlt hl
  have hgood := (exec_feed_cases hsecond).goodState ((exec_feed_cases hfirst).goodState hs)
  have hread : ∀ i, ((s.wbuf.write 0 sync).write 1 l).read i =
      if i = 1 then l else if i = 0 then sync else s.wbuf.read i := by
    intro i
    rw [Memory.read_write _ _ _ (Memory.write_wf _ _ _ hs.ranges.wbufWf),
      Memory.read_write _ _ _ hs.ranges.wbufWf]
  refine ⟨_, by simp only [asmBytes, List.map, runCommands, hfirst, hsecond], hgood, rfl, ?_, ?_, rfl, rfl⟩
  · exact congrArg BitVec.toNat (hread 1)
  · exact congrArg₂ (fun b0 b1 => [b0, b1]) (hread 0) (hread 1)

/-- A data byte that is not the last one declared is collected (R143). -/
theorem Collecting.feed (h : Collecting s u len bytes) (b : Byte) (hlt : bytes.length < len + 1) :
    ∃ v, exec (.feed b) u = .next v ∧ Collecting s v len (bytes ++ [b]) := by
  have hwf := h.good.ranges.wbufWf
  have hcount : (u.cnt + 1#8).toNat = u.cnt.toNat + 1 := by
    have hbelow := h.good.framer.count h.fsm
    bv_omega
  have hnot : ¬ completes b u := fun hc => absurd ((h.completes_iff b).mp hc) (Nat.ne_of_lt hlt)
  obtain ⟨v, hv⟩ := exec_feed_completes b h.good
  have hcase := exec_feed_cases hv
  have hgood := hcase.goodState h.good
  obtain rfl := hcase.eq_of_data h.fsm hnot
  refine ⟨_, hv, hgood, h.fsm, ?_, ?_, h.cfg, h.rxCount⟩
  · rw [← h.length]
    exact congrArg BitVec.toNat (State.lengthByte_append_data hwf b)
  · rw [← h.bytes, ← State.readBytes_append_data hwf]
    change (u.wbuf.write (2 + u.cnt.toNat) b).readBytes 0 ((u.cnt + 1#8).toNat + 2) = _
    rw [hcount, Nat.add_right_comm]

/-- Data bytes, the last one declared not among them, are collected one by one. -/
theorem Collecting.feedAll (h : Collecting s u len bytes) (data : List Byte)
    (hle : bytes.length + data.length ≤ len + 1) :
    ∃ v, runCommands (asmBytes data) u = .next v ∧ Collecting s v len (bytes ++ data) := by
  induction data generalizing u bytes with
  | nil => exact ⟨u, rfl, by simpa using h⟩
  | cons b data ih =>
    rw [List.length_cons] at hle
    obtain ⟨v, hv, hcv⟩ := h.feed b (by omega)
    obtain ⟨w, hw, hcw⟩ := ih hcv (by rw [List.length_append, List.length_singleton]; omega)
    refine ⟨w, ?_, by simpa using hcw⟩
    change runCommands (.feed b :: asmBytes data) u = .next w
    simpa only [runCommands, hv] using hw

/-- Everything of a frame but its CRC is collected (R100). -/
theorem collecting_of_frame {sync l : Byte} {body : List Byte} (hs : GoodState s) (hf : s.fsm = .idle)
    (hsync : s.cfg.isSync sync = true) (hlt : l.toNat < s.cfg.maxLen) (hl : l.toNat = body.length + 1) :
    ∃ u, runCommands (asmBytes (sync :: l :: body)) s = .next u ∧
      Collecting s u (body.length + 1) (sync :: l :: body) := by
  have hne : l ≠ 0#8 := fun h0 => by rw [h0] at hl; cases hl
  obtain ⟨v, hv, hheader⟩ := collecting_of_header hs hf hsync hlt hne
  rw [hl] at hheader
  obtain ⟨u, hu, hall⟩ := hheader.feedAll body (Nat.le_of_eq (Nat.add_comm 2 body.length))
  exact ⟨u, (runCommands_append hv).trans hu, hall⟩

/-- When all bytes but the CRC are collected, the CRC over the type and the payload completes a valid frame
(R145, R146). -/
theorem Collecting.completesValid {sync l : Byte} {body : List Byte}
    (h : Collecting s u (body.length + 1) (sync :: l :: body)) :
    completesValid (s.cfg.crc8 body body.length) u ∧
      (completedFrame (s.cfg.crc8 body body.length) u).bytes =
        sync :: l :: (body ++ [s.cfg.crc8 body body.length]) := by
  have hc : completes (s.cfg.crc8 body body.length) u := (h.completes_iff _).mpr rfl
  have hbytes := h.good.completedFrame_bytes hc
  rw [h.bytes] at hbytes
  refine ⟨⟨hc, ?_⟩, hbytes⟩
  rw [hbytes, completedFrame_len h.good.ranges.wbufWf, h.length, h.cfg]
  exact (Cfg.crc8_append s.cfg body _).symm

/-- The FEED that completes a CRC-valid frame ends in IDLE (R144). -/
theorem FeedCase.fsm_of_valid {b : Byte} (h : FeedCase b s t) (hv : completesValid b s) : t.fsm = .idle := by
  obtain ⟨s', route, -, -, hcl, rfl⟩ := h.classified_of_valid hv
  exact (classify_kept hcl).fsm

end Sys2Proof.Machine

namespace Sys2Proof.EncodingFamily

open Sys2Proof Sys2Proof.Machine

/-- Settles O1: the decoder's branches rebuild the word from its fields, and the fields of a command's word lead back
to its branch. -/
theorem decodeAndEncodeAgree : Obligations.DecodeAndEncodeAgree := by
  unfold Obligations.DecodeAndEncodeAgree
  exact fun w i => ⟨eq_encode_of_decode, fun h => h ▸ decode_encode i⟩

/-- Settles O2: a word that decodes is a command's word, which is legal; each branch that refuses meets a condition of
R109. -/
theorem decodeRefusesExactlyIllegalWords : Obligations.DecodeRefusesExactlyIllegalWords := by
  unfold Obligations.DecodeRefusesExactlyIllegalWords
  exact fun w => (decode_error_iff w).trans (CommandWord.illegal_iff w)

/-- Settles O3: each sample is the word of its command. -/
theorem sampleWordsDecode : Obligations.SampleWordsDecode := by
  unfold Obligations.SampleWordsDecode
  exact ⟨decode_encode (.feed 0xC8#8), decode_encode (.rdtx 0x07#8), decode_encode .next, decode_encode .takeBoot,
    decode_encode .takeBind, decode_encode .takeMm, decode_encode .takePing, decode_encode .cntUpd,
    decode_encode .cntRx, decode_encode .linkrst⟩

/-- Settles O24: in a good state the byte that completes a frame is the last one declared, so it goes behind the
`L + 1` bytes collected. -/
theorem completedFrameIsTheBytesFed : Obligations.CompletedFrameIsTheBytesFed := by
  unfold Obligations.CompletedFrameIsTheBytesFed
  intro s b hs hc
  have hlen : (completedFrame b s).len = (s.wbuf.read 1).toNat := completedFrame_len hs.ranges.wbufWf b
  have hcount : s.cnt.toNat + 1 = (s.wbuf.read 1).toNat := (hs.completes_iff hc.1 b).mp hc
  refine ⟨hlen, ?_, hcount, ?_⟩
  · rw [← hlen]
    exact Memory.length_readBytes ..
  · rw [hs.completedFrame_bytes hc, State.collected, Memory.readBytes_zero_eq_map, ← hcount]

/-- Settles O26: a status code is one of R112's; the route is the classifier's, and only a valid frame has one. -/
theorem onlyListedCodesAreProduced : Obligations.OnlyListedCodesAreProduced := by
  unfold Obligations.OnlyListedCodesAreProduced
  intro i s t hs h
  have hn : s.cfg.n ≤ 64 := hs.bounds.slotCount.2
  by_cases hv : ReceivesValid i s
  · obtain ⟨route, hrsp, hslot⟩ := exec_rsp_of_receivesValid h hv
    exact ⟨_, hrsp, Status.code_le .ok, Route.code_listed hn hslot, fun _ => rfl⟩
  · obtain ⟨st, ok, data, hrsp⟩ := exec_rsp_of_not_receivesValid h hv
    exact ⟨_, hrsp, st.code_le, Route.code_listed (route := .none) hn nofun, fun hne => absurd rfl hne⟩

/-- Settles O28: the header starts the collecting, the type and the payload are collected, and the CRC completes the
frame. -/
theorem wellFormedFrameIsDelivered : Obligations.WellFormedFrameIsDelivered := by
  unfold Obligations.WellFormedFrameIsDelivered
  intro s sync ty payload hs hf hsync hlt
  have hmax := hs.bounds.maxLen.2
  have hl : (BitVec.ofNat 8 (payload.length + 2)).toNat = (ty :: payload).length + 1 := Nat.mod_eq_of_lt (by omega)
  obtain ⟨u, hu, hall⟩ := collecting_of_frame hs hf hsync (hl.trans_lt hlt) hl
  obtain ⟨hvalid, hbytes⟩ := hall.completesValid
  obtain ⟨t, ht⟩ := exec_feed_completes (s.cfg.crc8 (ty :: payload) (ty :: payload).length) hall.good
  obtain ⟨route, hrsp, -⟩ := exec_rsp_of_receivesValid ht ⟨_, rfl, hvalid⟩
  exact ⟨_, _, u, t, _, asmFrame_eq_append .., hu, hall.rxCount, hvalid, by rw [hbytes]; rfl, ht,
    (exec_feed_cases ht).fsm_of_valid hvalid, hrsp, rfl⟩

end Sys2Proof.EncodingFamily

/-! ## 40_framer: what a FEED answers, the framer's invariants, and the frames counted

`FeedCase` says what a FEED can do; each lemma here says which of its cases one state and byte meet, or what a field is
after it. The run statement comes from what one step does to the counter. -/

namespace Sys2Proof

theorem Cfg.isSync_iff {c : Cfg} {b : Byte} : c.isSync b = true ↔ b = c.syncRx ∨ b = c.syncGen := by
  simp [Cfg.isSync]

end Sys2Proof

namespace Sys2Proof.Machine

variable {s t : State}

/-! ### FEED in each state of the framer (R141 to R147) -/

theorem exec_feed_of_not_sync {b : Byte} (hf : s.fsm = .idle) (hb : ¬ s.cfg.isSync b = true) :
    exec (.feed b) s = .next (s.reportError .eSync) := by
  simp [exec, execFeed, hf, feedIdle, hb, outcome]

theorem exec_feed_of_bad_length {b : Byte} (hf : s.fsm = .rxLen) (hb : s.cfg.maxLen ≤ b.toNat ∨ b = 0#8) :
    exec (.feed b) s = .next (State.reportError { s with fsm := .idle } .eLength) := by
  simp [exec, execFeed, hf, feedLength, hb, outcome]

/-- The byte counter stays in its 8 bits: in RX_DATA it is below the declared length (R32, R151). -/
theorem GoodState.cnt_succ (h : GoodState s) (hf : s.fsm = .rxData) : (s.cnt + 1#8).toNat = s.cnt.toNat + 1 := by
  have hcount := h.framer.count hf
  bv_omega

/-- A byte that completes a frame with another CRC (R147). -/
theorem FeedCase.eq_of_badCrc {b : Byte} (h : FeedCase b s t) (hc : completes b s) (hv : ¬ completesValid b s) :
    t = (s.completed b).reportError .eCrc := by
  have hfsm := hc.1
  cases h with
  | sync hf | notSync hf | length hf | badLength hf => rw [hf] at hfsm; cases hfsm
  | data _ _ hn => exact absurd hc hn
  | badCrc _ _ _ ht => exact ht
  | valid _ _ hvalid => exact absurd hvalid hv

/-- A byte that completes a CRC-valid frame counts it (R34, R146). -/
theorem FeedCase.rxCount_of_valid {b : Byte} (h : FeedCase b s t) (hv : completesValid b s) :
    t.rxCount = (s.rxCount + 1) % 2 ^ s.cfg.cntW := by
  obtain ⟨s', route, -, -, hcl, rfl⟩ := h.classified_of_valid hv
  have hk := classify_kept hcl
  rw [State.respond_rxCount, State.countFrame_rxCount, hk.rxCount, hk.cfg]
  rfl

/-- What the classifier never writes is as the completing byte left it (R146). -/
theorem FeedCase.received {b : Byte} (h : FeedCase b s t) (hwf : s.wbuf.wf = true) (hv : completesValid b s) :
    ∃ route, Received b s t route := by
  have hcount := h.rxCount_of_valid hv
  obtain ⟨s', route, -, -, hcl, rfl⟩ := h.classified_of_valid hv
  have hk := classify_kept hcl
  have hwbuf : s'.wbuf = s.wbuf.write (2 + s.cnt.toNat) b := hk.wbuf
  refine ⟨route.code, hk.fsm, hk.cnt, fun i => ?_, hcount, rfl, hk.cfg, hk.locked, hk.cursor, hk.txValid, hk.txSlot,
    hk.txLen, hk.inputs⟩
  change s'.wbuf.read i = _
  rw [hwbuf, Memory.read_write _ _ _ hwf]

/-! ### The framer's invariants -/

/-- R151, in a working buffer in canonical form (log 12). -/
def State.FramerKept (s : State) : Prop := s.wbuf.wf = true ∧ FramerOk s

theorem State.FramerKept.fullReset (s : State) : s.fullReset.FramerKept := ⟨rfl, .of_idle rfl⟩

theorem FeedCase.framerKept {b : Byte} (h : FeedCase b s t) (hs : s.FramerKept) : t.FramerKept := by
  obtain ⟨hwf, hframer⟩ := hs
  refine ⟨?_, h.framerOk hwf hframer⟩
  rcases h.wbuf_cases with hw | ⟨i, -, hw⟩ <;> rw [hw]
  · exact hwf
  · exact Memory.write_wf _ _ _ hwf

/-- Only FEED writes what the invariants read (R45). -/
theorem CommandCase.framerKept {i : Instr} (h : CommandCase s t i) (hs : s.FramerKept) : t.FramerKept := by
  cases h with
  | feed b hf => exact hf.framerKept hs
  | next hn => rw [hn.frame]; exact ⟨hs.1, { hs.2 with }⟩
  | take _ ht | linkrst ht => rw [ht]; exact ⟨hs.1, { hs.2 with }⟩

/-! ### The counter of received frames (R34, R150) -/

theorem exec_rxCount_of_receivesValid {i : Instr} (h : exec i s = .next t) (hv : ReceivesValid i s) :
    t.rxCount = (s.rxCount + 1) % 2 ^ s.cfg.cntW := by
  obtain ⟨b, rfl, hvalid⟩ := hv
  exact (exec_feed_cases h).rxCount_of_valid hvalid

theorem exec_rxCount_of_not_receivesValid {i : Instr} (h : exec i s = .next t) (hv : ¬ ReceivesValid i s) :
    t.rxCount = s.rxCount := by
  cases exec_cases h with
  | feed b hf => rw [hf.frame_of_not_valid fun hvalid => hv ⟨b, rfl, hvalid⟩]
  | next hn => rw [hn.frame]
  | take _ ht | linkrst ht => rw [ht]

/-- The frame-done pulse of the step just done, as a number: 0 in a step without a response (R150). -/
def State.donePulse (s : State) : Nat :=
  match s.rsp with
  | some r => r.done.toNat
  | none => 0

theorem State.donePulse_of_rsp {r : Response} (h : s.rsp = some r) : s.donePulse = r.done.toNat := by
  rw [State.donePulse, h]

theorem State.donePulse_of_no_rsp (h : s.rsp = none) : s.donePulse = 0 := by
  rw [State.donePulse, h]

theorem donePulses_succ (k : Nat) (h : step s = .next t) : donePulses (k + 1) s = t.donePulse + donePulses k t := by
  rw [donePulses, h]
  rfl

/-- A command counts its frame-done pulse. -/
theorem exec_counts {i : Instr} (hs : GoodState s) (h : exec i s = .next t) :
    t.rxCount = (s.rxCount + t.donePulse) % 2 ^ s.cfg.cntW := by
  by_cases hv : ReceivesValid i s
  · obtain ⟨route, hrsp, -⟩ := exec_rsp_of_receivesValid h hv
    rw [State.donePulse_of_rsp hrsp]
    exact exec_rxCount_of_receivesValid h hv
  · obtain ⟨st, ok, data, hrsp⟩ := exec_rsp_of_not_receivesValid h hv
    rw [State.donePulse_of_rsp hrsp, exec_rxCount_of_not_receivesValid h hv]
    exact (Nat.mod_eq_of_lt hs.ranges.rxCount).symm

/-- Every step but full reset counts its frame-done pulse: an illegal word gives none, nor does a step that waits. -/
theorem step_counts (hs : GoodState s) (hin : .fullReset ∉ s.inputs) (h : step s = .next t) :
    t.rxCount = (s.rxCount + t.donePulse) % 2 ^ s.cfg.cntW := by
  have hkeep : s.rxCount = (s.rxCount + 0) % 2 ^ s.cfg.cntW := (Nat.mod_eq_of_lt hs.ranges.rxCount).symm
  obtain ⟨-, ⟨-, rfl⟩ | ⟨input, rest, hcons, ha⟩⟩ := step_cases h
  · rw [State.donePulse_of_no_rsp rfl]
    exact hkeep
  · rcases acceptInput_cases ha with ⟨rfl, -⟩ | ⟨-, i, -, -, hi⟩ | ⟨-, -, -, -, rfl⟩
    · exact absurd (hcons ▸ List.mem_cons_self) hin
    · exact exec_counts (s := { s with inputs := rest }) (hs.withUnread ..) hi
    · rw [State.donePulse_of_rsp rfl]
      exact hkeep

theorem CommandCase.inputs {i : Instr} (h : CommandCase s t i) : t.inputs = s.inputs := by
  cases h with
  | feed b hf => exact hf.kept.inputs
  | next hn => rw [hn.frame]
  | take _ ht | linkrst ht => rw [ht]

/-- A step takes the first input off the port, if there is one (R76). -/
theorem step_inputs (h : step s = .next t) : t.inputs = s.inputs.tail := by
  obtain ⟨-, ⟨hnil, rfl⟩ | ⟨input, rest, hcons, ha⟩⟩ := step_cases h
  · simp [hnil]
  · rw [hcons, List.tail_cons]
    rcases acceptInput_cases ha with ⟨-, rfl⟩ | ⟨-, i, -, -, hi⟩ | ⟨-, -, -, -, rfl⟩
    · rfl
    · exact (exec_cases hi).inputs
    · rfl

/-- Without a reset among the inputs, a run of the block counts the frame-done pulses of its steps. -/
theorem run_counts (k : Nat) (hs : GoodState s) (hin : .fullReset ∉ s.inputs) :
    ∃ t, core.run k s = .next t ∧ t.rxCount = (s.rxCount + donePulses k s) % 2 ^ s.cfg.cntW := by
  induction k generalizing s with
  | zero => exact ⟨s, rfl, (Nat.mod_eq_of_lt hs.ranges.rxCount).symm⟩
  | succ k ih =>
    obtain ⟨u, hu⟩ := step_completes hs
    have hcfg : u.cfg = s.cfg := StateFamily.configurationIsConstant s u hu
    have hin' : .fullReset ∉ u.inputs := fun hmem => hin (List.mem_of_mem_tail (step_inputs hu ▸ hmem))
    obtain ⟨t, hrun, hcount⟩ := ih (StateFamily.everyStepKeepsGoodState s u hs hu) hin'
    refine ⟨t, ?_, ?_⟩
    · have hstep : core.step s = .next u := hu
      simpa only [Host.Core.run, hstep] using hrun
    · calc t.rxCount
          = ((s.rxCount + u.donePulse) % 2 ^ s.cfg.cntW + donePulses k u) % 2 ^ s.cfg.cntW := by
            rw [hcount, hcfg, step_counts hs hin hu]
        _ = (s.rxCount + donePulses (k + 1) s) % 2 ^ s.cfg.cntW := by
            rw [Nat.mod_add_mod, Nat.add_assoc, donePulses_succ k hu]

end Sys2Proof.Machine

namespace Sys2Proof.FramerFamily

open Sys2Proof Sys2Proof.Machine

/-- Settles O19: the two branches of FEED in IDLE. -/
theorem feedInIdle : Obligations.FeedInIdle := by
  unfold Obligations.FeedInIdle
  exact fun s b hf => ⟨fun hb => exec_feed_of_sync hf (Cfg.isSync_iff.mpr hb),
    fun hb => exec_feed_of_not_sync hf (mt Cfg.isSync_iff.mp hb)⟩

/-- Settles O20: the two branches of FEED in RX_LEN; a byte above 0 is not 0. -/
theorem feedInRxLen : Obligations.FeedInRxLen := by
  unfold Obligations.FeedInRxLen
  refine fun s b hf => ⟨exec_feed_of_bad_length hf, fun ⟨hpos, hlt⟩ => exec_feed_of_length hf hlt ?_⟩
  rintro rfl
  exact absurd hpos (by decide)

/-- Settles O16: only FEED and full reset write what the invariants read, and `FeedCase.framerOk` goes through the
cases of FEED. -/
theorem framerInvariantKept : Obligations.FramerInvariantKept := by
  unfold Obligations.FramerInvariantKept
  refine ⟨fun c => ⟨rfl, .of_idle rfl⟩, fun s t hwf hs h => ?_⟩
  exact step_keeps (P := State.FramerKept) (fun _ _ _ hu => ⟨hu.1, { hu.2 with }⟩) (fun u _ => .fullReset u)
    (fun _ _ _ hu hi => (exec_cases hi).framerKept hu) ⟨hwf, hs⟩ h

/-- Settles O18: after full reset the counter is 0 and the state good, and command words hold no reset. -/
theorem frameDonePulsesAreCounted : Obligations.FrameDonePulsesAreCounted := by
  unfold Obligations.FrameDonePulsesAreCounted
  intro c ws k hwf
  have hgood : GoodState { State.resetWith c with inputs := ws.map .command } := (GoodState.resetWith hwf).withUnread ..
  have hin : .fullReset ∉ ws.map Input.command := by simp
  obtain ⟨t, hrun, hcount⟩ := run_counts k hgood hin
  exact ⟨t, hrun, by simpa using hcount⟩

/-- Settles O21: in a good state a byte before the last one declared completes nothing, and the counter does not
wrap. -/
theorem feedAppendsDataByte : Obligations.FeedAppendsDataByte := by
  unfold Obligations.FeedAppendsDataByte
  intro s b hs hf hlt
  have hnot : ¬ completes b s := fun hc => absurd ((hs.completes_iff hf b).mp hc) (Nat.ne_of_lt hlt)
  obtain ⟨t, ht⟩ := exec_feed_completes b hs
  obtain rfl := (exec_feed_cases ht).eq_of_data hf hnot
  exact ⟨_, ht, hs.cnt_succ hf, Memory.read_write _ _ _ hs.ranges.wbufWf, rfl⟩

/-- Settles O22: in a good state the last byte declared completes the frame, and the CRC decides. -/
theorem crcMismatchDiscards : Obligations.CrcMismatchDiscards := by
  unfold Obligations.CrcMismatchDiscards
  intro s b hs hf hlast hcrc
  have hc : completes b s := (hs.completes_iff hf b).mpr hlast
  have hbad : ¬ completesValid b s := by
    rintro ⟨-, heq⟩
    rw [completedFrame_len hs.ranges.wbufWf] at heq
    exact hcrc heq
  obtain ⟨t, ht⟩ := exec_feed_completes b hs
  obtain rfl := (exec_feed_cases ht).eq_of_badCrc hc hbad
  exact ⟨_, ht, rfl, Memory.read_write _ _ _ hs.ranges.wbufWf, rfl⟩

/-- Settles O23: FEED completes in a good state, and the classifier writes none of what `Received` names. -/
theorem crcMatchIsReceived : Obligations.CrcMatchIsReceived := by
  unfold Obligations.CrcMatchIsReceived
  intro s b hs hv
  obtain ⟨t, ht⟩ := exec_feed_completes b hs
  obtain ⟨route, hreceived⟩ := (exec_feed_cases ht).received hs.ranges.wbufWf hv
  exact ⟨t, route, ht, hreceived⟩

/-- Settles O25: the response and the counter after a command that receives a valid frame, and after one that does
not. -/
theorem frameDoneExactlyOnValidFrame : Obligations.FrameDoneExactlyOnValidFrame := by
  unfold Obligations.FrameDoneExactlyOnValidFrame
  intro i s t h
  by_cases hv : ReceivesValid i s
  · obtain ⟨route, hrsp, -⟩ := exec_rsp_of_receivesValid h hv
    exact ⟨_, hrsp, iff_of_true rfl hv, exec_rxCount_of_receivesValid h hv⟩
  · obtain ⟨st, ok, data, hrsp⟩ := exec_rsp_of_not_receivesValid h hv
    exact ⟨_, hrsp, iff_of_false Bool.false_ne_true hv, exec_rxCount_of_not_receivesValid h hv⟩

end Sys2Proof.FramerFamily

/-! ## 41_classifier: what a FEED does with the CRC-valid frame that it completes

The order of R192 has four ends: no type byte, a control rule, a drop, a store. First come the rules, as equations for
what each decides; then, for each end, what FEED leaves. An obligation is the rule that its hypotheses meet and the end
it comes to. -/

namespace Sys2Proof.Machine

variable {s t : State}

/-! ### Rules 1 to 4 (R173 to R176) -/

section ControlRules

variable {c : Cfg} {f : Frame} {ty : Byte}

theorem Frame.field_eq_none_of_len_lt {j : Nat} (h : f.len < j) : f.field j = none := by
  cases hfield : f.field j with
  | none => rfl
  | some b => exact absurd (Frame.le_len_of_field hfield) (by omega)

theorem hasSubOpcode_iff {s0 s1 : Byte} :
    hasSubOpcode c f s0 s1 = true ↔ f.field c.offSub0 = some s0 ∧ f.field c.offSub1 = some s1 := by
  simp [hasSubOpcode]

theorem ruleBoot_eq_none_iff : ruleBoot c f ty = none ↔
    ¬ (ty = c.tCommand ∧ f.field c.offSub0 = some 0x62#8 ∧ f.field c.offSub1 = some 0x6C#8) := by
  simp [ruleBoot, hasSubOpcode_iff, charB, charL]

theorem ruleBind_eq_none_iff : ruleBind c f ty = none ↔
    ¬ (ty = c.tCommand ∧ f.field c.offSub0 = some 0x62#8 ∧ f.field c.offSub1 = some 0x64#8) := by
  simp [ruleBind, hasSubOpcode_iff, charB, charD]

theorem ruleMm_eq_none_iff : ruleMm c f ty = none ↔
    ¬ (ty = c.tCommand ∧ f.field c.offSub0 = some 0x6D#8 ∧ f.field c.offSub1 = some 0x6D#8 ∧
      f.field c.offMmid ≠ none) := by
  simp [ruleMm, hasSubOpcode_iff, charM]

theorem rulePing_eq_none_iff : rulePing c f ty = none ↔
    ¬ (ty = c.tDevicePing ∧ f.field c.offPingTarget = some c.syncRx) := by
  simp [rulePing]

theorem noCommandRule_iff :
    NoCommandRule c f ty ↔ ruleBoot c f ty = none ∧ ruleBind c f ty = none ∧ ruleMm c f ty = none := by
  rw [ruleBoot_eq_none_iff, ruleBind_eq_none_iff, ruleMm_eq_none_iff]
  by_cases hty : ty = c.tCommand <;> simp [NoCommandRule, hty]

/-- The statements' condition on a frame is that the model's rules 1 to 4 decide nothing. -/
theorem noControlRule_iff : NoControlRule c f ty ↔ controlOf c f ty = none := by
  simp only [NoControlRule, noCommandRule_iff, ← rulePing_eq_none_iff, controlOf, Option.or_eq_none_iff, and_assoc]

theorem controlOf_boot (h0 : f.field c.offSub0 = some 0x62#8) (h1 : f.field c.offSub1 = some 0x6C#8) :
    controlOf c f c.tCommand = some .boot := by
  simp [controlOf, ruleBoot, hasSubOpcode, h0, h1, charB, charL]

theorem controlOf_bind (h0 : f.field c.offSub0 = some 0x62#8) (h1 : f.field c.offSub1 = some 0x64#8) :
    controlOf c f c.tCommand = some .bind := by
  have hboot : ruleBoot c f c.tCommand = none := ruleBoot_eq_none_iff.mpr (by simp [h1])
  simp [controlOf, hboot, ruleBind, hasSubOpcode, h0, h1, charB, charD]

/-- Rules 1 and 2 ask for another first sub-opcode byte than rule 3. -/
theorem controlOf_of_subOpcode_mm (h0 : f.field c.offSub0 = some 0x6D#8) (h1 : f.field c.offSub1 = some 0x6D#8) :
    controlOf c f c.tCommand = ((f.field c.offMmid).map .mm).or (rulePing c f c.tCommand) := by
  have hboot : ruleBoot c f c.tCommand = none := ruleBoot_eq_none_iff.mpr (by simp [h0])
  have hbind : ruleBind c f c.tCommand = none := ruleBind_eq_none_iff.mpr (by simp [h0])
  simp [controlOf, hboot, hbind, ruleMm, hasSubOpcode, h0, h1, charM]

theorem controlOf_ping (hno : NoCommandRule c f c.tDevicePing) (htarget : f.field c.offPingTarget = some c.syncRx) :
    controlOf c f c.tDevicePing = some .ping := by
  obtain ⟨hboot, hbind, hmm⟩ := noCommandRule_iff.mp hno
  simp [controlOf, hboot, hbind, hmm, rulePing, htarget]

theorem isMsp_iff : isMsp c ty = true ↔ ty = c.tMspReq ∨ ty = c.tMspResp := by
  simp [isMsp]

end ControlRules

/-! ### Rule 6 (R178 to R184) -/

section StorageRules

variable {f : Frame} {ty : Byte}

theorem storageOf_of_extended (h : s.cfg.tExtFirst ≤ ty) : storageOf s f ty = routeExtended s f ty := if_pos h

theorem routeExtended_vendor {sub : Byte} (hsub : f.field s.cfg.offVsub = some sub) :
    routeExtended s f s.cfg.tVendorResp =
      if sub = s.cfg.stStatusText then .store (s.cfg.n - 1) else .store (s.cfg.n - 2) := by
  simp [routeExtended, hsub, Cfg.res1, Cfg.res2]

theorem routeExtended_vendor_short (hsub : f.field s.cfg.offVsub = none) :
    routeExtended s f s.cfg.tVendorResp = .drop .dShort := by
  simp [routeExtended, hsub]

theorem routeExtended_origin_short (hty : ty ≠ s.cfg.tVendorResp) (horigin : f.field s.cfg.offOrigin = none) :
    routeExtended s f ty = .drop .dShort := by
  simp [routeExtended, hty, horigin]

theorem routeExtended_other_origin {origin : Byte} (hty : ty ≠ s.cfg.tVendorResp)
    (horigin : f.field s.cfg.offOrigin = some origin) (hne : origin ≠ s.cfg.addrFc) :
    routeExtended s f ty = .store (s.cfg.n - 1) := by
  simp [routeExtended, hty, horigin, hne, Cfg.res1]

/-- From the flight controller only an MSP frame looks at the `updated` flags (R181, R182). -/
theorem routeExtended_fc (hty : ty ≠ s.cfg.tVendorResp) (horigin : f.field s.cfg.offOrigin = some s.cfg.addrFc) :
    routeExtended s f ty =
      if isMsp s.cfg ty && s.updatedAt (s.cfg.n - 2) then
        if s.updatedAt (s.cfg.n - 1) then .drop .dBothBusy else .store (s.cfg.n - 1)
      else .store (s.cfg.n - 2) := by
  simp only [routeExtended, hty, horigin, ↓reduceIte]
  rfl

/-! ### Rule 7 (R185 to R188) -/

theorem storageOf_of_standard (h : ty < s.cfg.tExtFirst) : storageOf s f ty = routeStandard s f ty :=
  if_neg (BitVec.not_le.mpr h)

/-- The first standard slot whose filter is the type decides (R185). -/
theorem routeStandard_of_first {k : Nat} {d : StdSlot} (hk : s.cfg.std[k]? = some d) (hd : d.filter = ty)
    (hfirst : ∀ j e, j < k → s.cfg.std[j]? = some e → e.filter ≠ ty) :
    routeStandard s f ty =
      if s.lockedAt k = true then .drop .dLocked else if d.cap < f.size then .drop .dOversize else .store k := by
  obtain ⟨hlt, hget⟩ := List.getElem?_eq_some_iff.mp hk
  have hfind : s.cfg.std.findIdx? (fun d => d.filter == ty) = some k := by
    refine List.findIdx?_eq_some_iff_getElem.mpr ⟨hlt, by simp [hget, hd], fun j hj => ?_⟩
    simpa using hfirst j _ hj (List.getElem?_eq_getElem (Nat.lt_trans hj hlt))
  simp [routeStandard, hfind, Cfg.cap_std _ hlt, hget]

theorem routeStandard_of_no_filter (h : ∀ d ∈ s.cfg.std, d.filter ≠ ty) :
    routeStandard s f ty = .drop .dNoMatch := by
  have hfind : s.cfg.std.findIdx? (fun d => d.filter == ty) = none := by simpa using h
  simp [routeStandard, hfind]

end StorageRules

/-! ### The MSP feed (R177) -/

theorem State.forwardMsp_eq (s : State) (f : Frame) (ty : Byte) : s.forwardMsp f ty = { s with
    mspLog := if ty = s.cfg.tMspReq ∨ ty = s.cfg.tMspResp then s.mspLog ++ [f.bytes] else s.mspLog } := by
  simp only [State.forwardMsp, isMsp_iff]
  split <;> rfl

theorem mspLogAfter_of_type {b ty : Byte} (hty : (completedFrame b s).field 2 = some ty) :
    mspLogAfter b s =
      if ty = s.cfg.tMspReq ∨ ty = s.cfg.tMspResp then s.mspLog ++ [(completedFrame b s).bytes] else s.mspLog := by
  simp only [mspLogAfter, hty]

theorem mspLogAfter_of_no_type {b : Byte} (hty : (completedFrame b s).field 2 = none) :
    mspLogAfter b s = s.mspLog := by
  simp only [mspLogAfter, hty]

/-- The state rules 6 and 7 start from: the frame appended to the MSP feed when rule 5 says so (R177). -/
def State.forwarded (s : State) (b : Byte) : State := { s.completed b with mspLog := mspLogAfter b s }

theorem State.forwarded_of_no_type {b : Byte} (hty : (completedFrame b s).field 2 = none) :
    s.forwarded b = s.completed b := by
  rw [State.forwarded, mspLogAfter_of_no_type hty]
  rfl

/-- Rule 5 reads the type and the configuration only, so it does the same before and after the completing byte. -/
theorem State.forwardMsp_completed {b ty : Byte} (hty : (completedFrame b s).field 2 = some ty) :
    (s.completed b).forwardMsp (completedFrame b s) ty = s.forwarded b := by
  rw [State.forwardMsp_eq, State.forwarded, mspLogAfter_of_type hty]
  rfl

/-! ### The four ends of CLASSIFY, from every state (R171, R192) -/

section Ends

variable {b ty : Byte}

/-- A frame without a type byte is dropped, and rule 5 forwards nothing (R172). -/
theorem FeedCase.eq_of_no_type (h : FeedCase b s t) (hv : completesValid b s)
    (hty : (completedFrame b s).field 2 = none) :
    t = (s.forwarded b).countFrame.respond .ok true true .dShort 0#32 := by
  rw [State.forwarded_of_no_type hty]
  obtain ⟨s', route, -, -, hcl, rfl⟩ := h.classified_of_valid hv
  rcases classify_cases hcl with ⟨-, rfl, rfl⟩ | ⟨ty, -, hsome, -⟩ | ⟨ty, hsome, -⟩
  · rfl
  all_goals rw [hty] at hsome; cases hsome

/-- A frame that a control rule matches sets the latch of that rule (R173 to R176). -/
theorem FeedCase.eq_of_control {ctl : Control} (h : FeedCase b s t) (hv : completesValid b s)
    (hty : (completedFrame b s).field 2 = some ty) (hctl : controlOf s.cfg (completedFrame b s) ty = some ctl) :
    t = ((s.completed b).applyControl ctl).countFrame.respond .ok true true ctl.route 0#32 := by
  obtain ⟨s', route, -, -, hcl, rfl⟩ := h.classified_of_valid hv
  have hclassify : classify (s.completed b) (completedFrame b s) =
      .ok ((s.completed b).applyControl ctl, ctl.route) := by
    simp only [classify, hty, State.completed, hctl]
  obtain ⟨rfl, rfl⟩ := Prod.mk.inj (Except.ok.inj (hcl.symm.trans hclassify))
  rfl

/-- Every other frame goes to the MSP feed as rule 5 says, and is then stored or dropped (R177, R178, R185). -/
theorem FeedCase.storage_of_no_control (h : FeedCase b s t) (hv : completesValid b s)
    (hty : (completedFrame b s).field 2 = some ty) (hctl : NoControlRule s.cfg (completedFrame b s) ty) :
    ∃ s' route, (s.forwarded b).applyStorage (completedFrame b s) (storageOf s (completedFrame b s) ty) =
        .ok (s', route) ∧
      t = s'.countFrame.respond .ok true true route 0#32 := by
  obtain ⟨s', route, -, -, hcl, rfl⟩ := h.classified_of_valid hv
  have hnone : controlOf (s.completed b).cfg (completedFrame b s) ty = none := noControlRule_iff.mp hctl
  have hclassify : classify (s.completed b) (completedFrame b s) =
      (s.forwarded b).applyStorage (completedFrame b s) (storageOf s (completedFrame b s) ty) := by
    rw [← State.forwardMsp_completed hty]
    simp only [classify, hty, hnone]
    rfl
  exact ⟨s', route, hclassify.symm.trans hcl, rfl⟩

theorem FeedCase.eq_of_drop {route : Route} (h : FeedCase b s t) (hv : completesValid b s)
    (hty : (completedFrame b s).field 2 = some ty) (hctl : NoControlRule s.cfg (completedFrame b s) ty)
    (hdrop : storageOf s (completedFrame b s) ty = .drop route) :
    t = (s.forwarded b).countFrame.respond .ok true true route 0#32 := by
  obtain ⟨s', route', happly, rfl⟩ := h.storage_of_no_control hv hty hctl
  rw [hdrop] at happly
  cases happly
  rfl

theorem FeedCase.eq_of_store {k : Nat} (h : FeedCase b s t) (hv : completesValid b s)
    (hty : (completedFrame b s).field 2 = some ty) (hctl : NoControlRule s.cfg (completedFrame b s) ty)
    (hstore : storageOf s (completedFrame b s) ty = .store k) :
    ∃ s', (s.forwarded b).slotWrite k (completedFrame b s).bytes = .ok s' ∧
      t = s'.countFrame.respond .ok true true (.slot k) 0#32 := by
  obtain ⟨s', route, happly, rfl⟩ := h.storage_of_no_control hv hty hctl
  rw [hstore] at happly
  rcases State.applyStorage_cases happly with ⟨hdrop, -⟩ | ⟨j, hj, rfl, hw⟩
  · cases hdrop
  · cases hj
    exact ⟨s', hw, rfl⟩

end Ends

/-! ### What each end leaves -/

section Effects

variable {b ty : Byte}

/-- What the classifier never writes, with the route that the response reports. -/
theorem FeedCase.received_of_rsp {route : BitVec 8} (h : FeedCase b s t) (hwf : s.wbuf.wf = true)
    (hv : completesValid b s) (hrsp : t.rsp = some ⟨0x0#4, true, true, route, 0#32⟩) : Received b s t route := by
  obtain ⟨_, hreceived⟩ := h.received hwf hv
  exact { hreceived with rsp := hrsp }

theorem FeedCase.droppedWith_of_eq {route : Route} (h : FeedCase b s t) (hwf : s.wbuf.wf = true)
    (hv : completesValid b s) (heq : t = (s.forwarded b).countFrame.respond .ok true true route 0#32) :
    DroppedWith b s t route.code := by
  refine ⟨h.received_of_rsp hwf hv (by rw [heq]; rfl), ?_, ?_, ?_, ?_⟩ <;> rw [heq]
  · exact ⟨rfl, rfl, rfl, rfl, rfl⟩
  · exact fun _ => rfl
  · rfl
  · rfl

theorem FeedCase.droppedWith_of_no_type (h : FeedCase b s t) (hwf : s.wbuf.wf = true) (hv : completesValid b s)
    (hty : (completedFrame b s).field 2 = none) : DroppedWith b s t Route.dShort.code :=
  h.droppedWith_of_eq hwf hv (h.eq_of_no_type hv hty)

theorem FeedCase.droppedWith_of_drop {route : Route} (h : FeedCase b s t) (hwf : s.wbuf.wf = true)
    (hv : completesValid b s) (hty : (completedFrame b s).field 2 = some ty)
    (hctl : NoControlRule s.cfg (completedFrame b s) ty)
    (hdrop : storageOf s (completedFrame b s) ty = .drop route) : DroppedWith b s t route.code :=
  h.droppedWith_of_eq hwf hv (h.eq_of_drop hv hty hctl hdrop)

/-- A control frame changes nothing but its latch, and `mm_id` with rule 3 (R173 to R176, R193). -/
theorem FeedCase.effect_of_control {ctl : Control} (h : FeedCase b s t) (hwf : s.wbuf.wf = true)
    (hv : completesValid b s) (hty : (completedFrame b s).field 2 = some ty)
    (hctl : controlOf s.cfg (completedFrame b s) ty = some ctl) :
    Received b s t ctl.route.code ∧ SlotsKept s t ∧ LatchesKept (s.applyControl ctl) t := by
  have heq := h.eq_of_control hv hty hctl
  refine ⟨h.received_of_rsp hwf hv (by rw [heq]; rfl), ?_, ?_⟩ <;> rw [heq]
  · cases ctl <;> exact ⟨fun _ => rfl, rfl, rfl⟩
  · cases ctl <;> exact ⟨rfl, rfl, rfl, rfl, rfl⟩

/-- SlotWrite changes no byte of the arena outside the bytes it stores (R74). -/
theorem State.slotWrite_read_outside {k a : Nat} {bytes : List Byte} (hw : s.slotWrite k bytes = .ok t)
    (hwf : s.arena.wf = true) (ha : a < s.cfg.base k ∨ s.cfg.base k + bytes.length ≤ a) :
    t.arena.read a = s.arena.read a := by
  obtain ⟨-, -, rfl⟩ := State.slotWrite_ok hw
  change Memory.read (s.arena.writeBytes (s.cfg.base k) bytes) a = _
  rw [Memory.read_writeBytes _ _ _ hwf, if_neg (by omega)]

/-- SlotWrite writes the arena and the `updated` flags only (R74). -/
theorem State.slotWrite_frame {k : Nat} {bytes : List Byte} (hw : s.slotWrite k bytes = .ok t) :
    t = { s with arena := t.arena, updated := t.updated } := by
  obtain ⟨-, -, rfl⟩ := State.slotWrite_ok hw
  rfl

theorem FeedCase.storedIn_of_store {k : Nat} (h : FeedCase b s t) (hs : GoodState s) (hv : completesValid b s)
    (hty : (completedFrame b s).field 2 = some ty) (hctl : NoControlRule s.cfg (completedFrame b s) ty)
    (hstore : storageOf s (completedFrame b s) ty = .store k) : StoredIn b s t k := by
  have hlength : (completedFrame b s).bytes.length = (completedFrame b s).size := State.wbufFrame_length _
  obtain ⟨s', hw, heq⟩ := h.eq_of_store hv hty hctl hstore
  have hframe := State.slotWrite_frame hw
  have hcfg : t.cfg = s.cfg := h.kept.cfg
  have hupdated : ∀ j, t.updatedAt j = if j = k then true else s.updatedAt j := by
    rw [heq]
    exact State.slotWrite_updatedAt (s := s.forwarded b) (t := s') hw hs.ranges.updated
  refine ⟨h.received_of_rsp hs.ranges.wbufWf hv (by rw [heq]; rfl), ?_, fun i hi => ?_, fun a ha => ?_, ?_,
    fun j hj => ?_, ?_⟩
  · rw [heq, hframe]
    exact ⟨rfl, rfl, rfl, rfl, rfl⟩
  · rw [heq]
    exact State.slotWrite_slotByte_same hw hs.ranges.arenaWf (hlength.symm ▸ hi)
  · rw [heq]
    exact State.slotWrite_read_outside (s := s.forwarded b) (t := s') hw hs.ranges.arenaWf (hlength.symm ▸ ha)
  · rw [hupdated, if_pos rfl]
  · rw [hupdated, if_neg hj]
  · rw [heq, hframe]
    rfl

/-- A frame that no control rule matches changes no latch: it is dropped or stored. -/
theorem FeedCase.latchesKept_of_no_control (h : FeedCase b s t) (hs : GoodState s) (hv : completesValid b s)
    (hty : (completedFrame b s).field 2 = some ty) (hctl : NoControlRule s.cfg (completedFrame b s) ty) :
    LatchesKept s t := by
  cases hto : storageOf s (completedFrame b s) ty with
  | drop route => exact (h.droppedWith_of_drop hs.ranges.wbufWf hv hty hctl hto).latches
  | store k => exact (h.storedIn_of_store hs hv hty hctl hto).latches

/-! ### The MSP log after each end, from every state -/

theorem FeedCase.mspLog_of_no_control (h : FeedCase b s t) (hv : completesValid b s)
    (hty : (completedFrame b s).field 2 = some ty) (hctl : NoControlRule s.cfg (completedFrame b s) ty) :
    t.mspLog = mspLogAfter b s := by
  cases hto : storageOf s (completedFrame b s) ty with
  | drop route =>
    rw [h.eq_of_drop hv hty hctl hto]
    rfl
  | store k =>
    obtain ⟨s', hw, heq⟩ := h.eq_of_store hv hty hctl hto
    rw [heq, State.slotWrite_frame hw]
    rfl

/-- A frame that ends before rule 5, without a type byte or with a control rule, is not forwarded (R171, R172). -/
theorem FeedCase.mspLog_of_consumed (h : FeedCase b s t) (hv : completesValid b s)
    (hctl : ∀ ty, (completedFrame b s).field 2 = some ty → ¬ NoControlRule s.cfg (completedFrame b s) ty) :
    t.mspLog = s.mspLog := by
  cases hty : (completedFrame b s).field 2 with
  | none =>
    rw [h.eq_of_no_type hv hty]
    exact mspLogAfter_of_no_type hty
  | some ty =>
    obtain ⟨ctl, hsome⟩ := Option.ne_none_iff_exists'.mp (mt noControlRule_iff.mpr (hctl ty hty))
    rw [h.eq_of_control hv hty hsome]
    cases ctl <;> rfl

theorem exec_mspLog_of_not_receivesValid {i : Instr} (h : exec i s = .next t) (hv : ¬ ReceivesValid i s) :
    t.mspLog = s.mspLog := by
  by_cases hi : ∃ b, i = .feed b
  · obtain ⟨b, rfl⟩ := hi
    rw [(exec_feed_cases h).frame_of_not_valid fun hvalid => hv ⟨b, rfl, hvalid⟩]
  · rw [(exec_cases h).frame_of_not_feed (not_exists.mp hi)]

/-! ### The slot that a FEED writes -/

/-- The slots are as before, or a frame that fits slot `k` was stored there. -/
def WritesAtMostOneSlot (b : Byte) (s t : State) : Prop :=
  ((∀ a, t.arena.read a = s.arena.read a) ∧ t.updated = s.updated) ∨
    ∃ k, k < s.cfg.n ∧ completesValid b s ∧ (completedFrame b s).size ≤ s.cfg.cap k ∧ StoredIn b s t k

/-- A byte that completes no CRC-valid frame writes no slot, and of the four ends only a store does. -/
theorem FeedCase.writesAtMostOneSlot (h : FeedCase b s t) (hs : GoodState s) : WritesAtMostOneSlot b s t := by
  have hwf := hs.ranges.wbufWf
  by_cases hv : completesValid b s
  · cases hty : (completedFrame b s).field 2 with
    | none =>
      have hdropped := h.droppedWith_of_no_type hwf hv hty
      exact .inl ⟨hdropped.arena, hdropped.updated⟩
    | some ty =>
      cases hctl : controlOf s.cfg (completedFrame b s) ty with
      | some ctl =>
        obtain ⟨-, hslots, -⟩ := h.effect_of_control hwf hv hty hctl
        exact .inl ⟨hslots.arena, hslots.updated⟩
      | none =>
        have hno : NoControlRule s.cfg (completedFrame b s) ty := noControlRule_iff.mpr hctl
        cases hto : storageOf s (completedFrame b s) ty with
        | drop route =>
          have hdropped := h.droppedWith_of_drop hwf hv hty hno hto
          exact .inl ⟨hdropped.arena, hdropped.updated⟩
        | store k =>
          obtain ⟨-, -, -, hmax, -⟩ := h.classified_of_valid hv
          exact .inr ⟨k, lt_of_storageOf_store hs.bounds hto, hv,
            size_le_cap_of_storageOf_store hs.bounds hto hmax, h.storedIn_of_store hs hv hty hno hto⟩
  · rw [h.frame_of_not_valid hv]
    exact .inl ⟨fun _ => rfl, rfl⟩

end Effects

/-! ### FEED of a completing byte in a good state, by the end it comes to -/

section GoodFeeds

variable {b ty : Byte}

theorem GoodState.feed_controls {ctl : Control} (hs : GoodState s) (hv : completesValid b s)
    (hty : (completedFrame b s).field 2 = some ty) (hctl : controlOf s.cfg (completedFrame b s) ty = some ctl) :
    ∃ t, exec (.feed b) s = .next t ∧ Received b s t ctl.route.code ∧ SlotsKept s t ∧
      LatchesKept (s.applyControl ctl) t := by
  obtain ⟨t, ht⟩ := exec_feed_completes b hs
  exact ⟨t, ht, (exec_feed_cases ht).effect_of_control hs.ranges.wbufWf hv hty hctl⟩

theorem GoodState.feed_drops {route : Route} (hs : GoodState s) (hv : completesValid b s)
    (hty : (completedFrame b s).field 2 = some ty) (hctl : NoControlRule s.cfg (completedFrame b s) ty)
    (hdrop : storageOf s (completedFrame b s) ty = .drop route) :
    ∃ t, exec (.feed b) s = .next t ∧ DroppedWith b s t route.code := by
  obtain ⟨t, ht⟩ := exec_feed_completes b hs
  exact ⟨t, ht, (exec_feed_cases ht).droppedWith_of_drop hs.ranges.wbufWf hv hty hctl hdrop⟩

theorem GoodState.feed_stores {k : Nat} (hs : GoodState s) (hv : completesValid b s)
    (hty : (completedFrame b s).field 2 = some ty) (hctl : NoControlRule s.cfg (completedFrame b s) ty)
    (hstore : storageOf s (completedFrame b s) ty = .store k) :
    ∃ t, exec (.feed b) s = .next t ∧ StoredIn b s t k := by
  obtain ⟨t, ht⟩ := exec_feed_completes b hs
  exact ⟨t, ht, (exec_feed_cases ht).storedIn_of_store hs hv hty hctl hstore⟩

end GoodFeeds

end Sys2Proof.Machine

namespace Sys2Proof.ClassifierFamily

open Sys2Proof Sys2Proof.Machine

/-- Settles O29: below length 2 the type byte is absent, and the frame goes no further. -/
theorem frameWithoutTypeIsDropped : Obligations.FrameWithoutTypeIsDropped := by
  unfold Obligations.FrameWithoutTypeIsDropped
  intro s b hs hv hlen
  have hty : (completedFrame b s).field 2 = none := Frame.field_eq_none_of_len_lt hlen
  obtain ⟨t, ht⟩ := exec_feed_completes b hs
  have hdropped := (exec_feed_cases ht).droppedWith_of_no_type hs.ranges.wbufWf hv hty
  exact ⟨t, ht, hdropped, hdropped.mspLog.trans (mspLogAfter_of_no_type hty)⟩

/-- Settles O30: rule 1 comes first. -/
theorem bootloaderFrameSetsItsLatch : Obligations.BootloaderFrameSetsItsLatch := by
  unfold Obligations.BootloaderFrameSetsItsLatch
  intro s b hs hv hty h0 h1
  obtain ⟨t, ht, hreceived, hslots, hlatches⟩ := hs.feed_controls hv hty (controlOf_boot h0 h1)
  exact ⟨t, ht, hreceived, hslots, hlatches.boot, hlatches⟩

/-- Settles O31: rule 1 asks for another second sub-opcode byte, so rule 2 matches first. -/
theorem enterBindFrameSetsItsLatch : Obligations.EnterBindFrameSetsItsLatch := by
  unfold Obligations.EnterBindFrameSetsItsLatch
  intro s b hs hv hty h0 h1
  obtain ⟨t, ht, hreceived, hslots, hlatches⟩ := hs.feed_controls hv hty (controlOf_bind h0 h1)
  exact ⟨t, ht, hreceived, hslots, hlatches.bind, hlatches⟩

/-- Settles O32: with the id byte rule 3 matches first; without it only rule 4 is left, which asks for another type. -/
theorem modelMatchFrameCapturesItsId : Obligations.ModelMatchFrameCapturesItsId := by
  unfold Obligations.ModelMatchFrameCapturesItsId
  intro s b hs hv hty h0 h1
  have hcontrol := controlOf_of_subOpcode_mm h0 h1
  refine ⟨fun id hid => ?_, fun hid hne => ?_⟩
  · have hmm : controlOf s.cfg (completedFrame b s) s.cfg.tCommand = some (.mm id) := by rw [hcontrol, hid]; rfl
    obtain ⟨t, ht, hreceived, hslots, hlatches⟩ := hs.feed_controls hv hty hmm
    exact ⟨t, ht, hreceived, hslots, hlatches.mm, hlatches.mmId, hlatches⟩
  · have hnone : controlOf s.cfg (completedFrame b s) s.cfg.tCommand = none := by
      rw [hcontrol, hid]
      exact rulePing_eq_none_iff.mpr fun hping => hne hping.1
    obtain ⟨t, ht⟩ := exec_feed_completes b hs
    exact ⟨t, ht, (exec_feed_cases ht).latchesKept_of_no_control hs hv hty (noControlRule_iff.mpr hnone)⟩

/-- Settles O33: with rules 1 to 3 excluded, rule 4 decides. -/
theorem devicePingSetsItsLatch : Obligations.DevicePingSetsItsLatch := by
  unfold Obligations.DevicePingSetsItsLatch
  intro s b hs hv hty htarget hno
  obtain ⟨t, ht, hreceived, hslots, hlatches⟩ := hs.feed_controls hv hty (controlOf_ping hno htarget)
  exact ⟨t, ht, hreceived, hslots, hlatches.ping, hlatches⟩

/-- Settles O34: the vendor branch of rule 6 reads the sub-type and no flag. -/
theorem vendorResponseRouting : Obligations.VendorResponseRouting := by
  unfold Obligations.VendorResponseRouting
  intro s b hs hv hty hext hctl
  have hrule := storageOf_of_extended (f := completedFrame b s) hext
  refine ⟨fun hsub => ?_, fun sub hsub hne => ?_, fun hlen => ?_⟩
  · exact hs.feed_stores hv hty hctl (by rw [hrule, routeExtended_vendor hsub, if_pos rfl])
  · exact hs.feed_stores hv hty hctl (by rw [hrule, routeExtended_vendor hsub, if_neg hne])
  · exact hs.feed_drops hv hty hctl (hrule.trans (routeExtended_vendor_short (Frame.field_eq_none_of_len_lt hlen)))

/-- Settles O35: the origin branch of rule 6; from the flight controller a type that is not MSP reads no flag. -/
theorem originAddressRouting : Obligations.OriginAddressRouting := by
  unfold Obligations.OriginAddressRouting
  intro s b ty hs hv hty hext hvendor hctl
  have hrule := storageOf_of_extended (f := completedFrame b s) hext
  refine ⟨fun horigin hreq hresp => ?_, fun origin horigin hne => ?_, fun hlen => ?_⟩
  · have hmsp : ¬ isMsp s.cfg ty = true := mt isMsp_iff.mp (not_or.mpr ⟨hreq, hresp⟩)
    exact hs.feed_stores hv hty hctl (by simp [hrule, routeExtended_fc hvendor horigin, hmsp])
  · exact hs.feed_stores hv hty hctl (hrule.trans (routeExtended_other_origin hvendor horigin hne))
  · exact hs.feed_drops hv hty hctl
      (hrule.trans (routeExtended_origin_short hvendor (Frame.field_eq_none_of_len_lt hlen)))

/-- Settles O36: for an MSP frame from the flight controller the two `updated` flags decide. -/
theorem mspCollisionRouting : Obligations.MspCollisionRouting := by
  unfold Obligations.MspCollisionRouting
  intro s b ty hs hv hty hext hvendor hctl hmsp horigin
  have hrule := (storageOf_of_extended (f := completedFrame b s) hext).trans (routeExtended_fc hvendor horigin)
  refine ⟨fun h2 => ?_, fun h2 h1 => ?_, fun h2 h1 => ?_⟩
  · exact hs.feed_stores hv hty hctl (by simp [hrule, h2])
  · exact hs.feed_stores hv hty hctl (by simp [hrule, isMsp_iff.mpr hmsp, h2, h1])
  · exact hs.feed_drops (route := .dBothBusy) hv hty hctl (by simp [hrule, isMsp_iff.mpr hmsp, h2, h1])

/-- Settles O37: the search of rule 7 stops at the first slot with the filter, and tests its lock before its size. -/
theorem standardSlotRouting : Obligations.StandardSlotRouting := by
  unfold Obligations.StandardSlotRouting
  intro s b ty hs hv hty hstd hctl
  have hrule := storageOf_of_standard (f := completedFrame b s) hstd
  refine ⟨fun k d hk hd hfirst => ?_, fun hnone => ?_⟩
  · rw [routeStandard_of_first hk hd hfirst] at hrule
    refine ⟨fun hl => ?_, fun hl hsize => ?_, fun hl hsize => ?_⟩
    · exact hs.feed_drops (route := .dLocked) hv hty hctl (by rw [hrule, if_pos hl])
    · exact hs.feed_drops (route := .dOversize) hv hty hctl (by simp [hrule, hl, hsize])
    · exact hs.feed_stores hv hty hctl (by simp [hrule, hl, hsize])
  · exact hs.feed_drops hv hty hctl (hrule.trans (routeStandard_of_no_filter hnone))

/-- Settles O38: the log after a frame that reaches rule 5, after one that does not, and after any other command. -/
theorem mspFramesAreForwarded : Obligations.MspFramesAreForwarded := by
  unfold Obligations.MspFramesAreForwarded
  refine ⟨fun s t b ty hv hty hctl h => ?_, fun s t b hv hctl h => ?_, fun i s t h hv => ?_⟩
  · rw [(exec_feed_cases h).mspLog_of_no_control hv hty hctl, mspLogAfter_of_type hty]
  · exact (exec_feed_cases h).mspLog_of_consumed hv hctl
  · exact exec_mspLog_of_not_receivesValid h fun ⟨b, hi, hvalid⟩ => hv b hi hvalid

/-- Settles O39: only the end that stores the frame writes a slot, and the frame fits the slot chosen for it. -/
theorem feedWritesAtMostOneSlot : Obligations.FeedWritesAtMostOneSlot := by
  unfold Obligations.FeedWritesAtMostOneSlot
  exact fun s t b hs h => (exec_feed_cases h).writesAtMostOneSlot hs

end Sys2Proof.ClassifierFamily

/-! ## 42_scheduler: which slot a NEXT_PAYLOAD presents, what READ_TX reads, and the two counters

After the release, `updated` is exactly the readiness of R221 and R222. So the lap stops at the first ready slot, and
`NextCase` says what follows from where it stops. A sweep walks one lap: the lap from the slot just presented is the
old lap rotated past that slot. -/

namespace Sys2Proof

/-! ### The room of a slot (R71) -/

/-- Every slot has room for two bytes below the end of the arena: the last reserved slot holds the largest frame, and
no slot starts after it. -/
theorem Cfg.base_add_two_le {c : Cfg} (h : c.Bounds) {k : Nat} (hk : k < c.n) : c.base k + 2 ≤ c.arenaSize := by
  have hn := h.slotCount
  have hlast : c.res1 < c.n := by unfold Cfg.res1; omega
  have hbase : c.base k ≤ c.base c.res1 := by
    rcases Nat.lt_or_ge k c.res1 with hlt | hge
    · exact Nat.le_trans (Nat.le_add_right _ _) (Cfg.slot_end_le_base h hlt hlast)
    · exact le_of_eq (congrArg c.base (by unfold Cfg.res1 at hge ⊢; omega))
  have hcap : c.cap c.res1 = c.resCap := Cfg.cap_reserved h (by unfold Cfg.res1 Cfg.res2; omega) hlast
  have harena := Cfg.slot_in_arena h hlast
  have hres := h.resCap
  have hlen := h.maxLen
  omega

end Sys2Proof

namespace Sys2Proof.Machine

variable {s t : State} {k m : Nat}

/-! ### The data of a response (R220, R230) -/

theorem zextByte_eq_ofNat (b : Byte) : zextByte b = BitVec.ofNat 32 b.toNat := by
  unfold zextByte
  bv_omega

theorem zextByte_ofNat_mod (x : Nat) : zextByte (BitVec.ofNat 8 (x % 256)) = BitVec.ofNat 32 (x % 256) := by
  rw [zextByte_eq_ofNat, BitVec.toNat_ofNat, Nat.mod_mod]

/-- The answer of NEXT_PAYLOAD has the slot above the low byte of the length. -/
theorem zextPair_slot_length (hk : k < 256) (m : Nat) :
    zextPair (BitVec.ofNat 8 k) (BitVec.ofNat 8 m) = BitVec.ofNat 32 (256 * k + m % 256) := by
  have hm : m % 256 < 2 ^ 8 := Nat.mod_lt _ (by decide)
  apply BitVec.eq_of_toNat_eq
  calc (zextPair (BitVec.ofNat 8 k) (BitVec.ofNat 8 m)).toNat
      = (k % 256 * 256 + m % 256) % 2 ^ 32 := by
        rw [zextPair, BitVec.toNat_setWidth, BitVec.toNat_append, BitVec.toNat_ofNat, BitVec.toNat_ofNat,
          ← Nat.shiftLeft_add_eq_or_of_lt hm, Nat.shiftLeft_eq]
    _ = (BitVec.ofNat 32 (256 * k + m % 256)).toNat := by
        rw [BitVec.toNat_ofNat, Nat.mod_eq_of_lt hk, Nat.mul_comm]

/-! ### The lap (R221, R222) -/

@[simp] theorem State.releaseCursor_cursor (s : State) : s.releaseCursor.cursor = s.cursor := by
  rw [State.releaseCursor_kept]

@[simp] theorem State.releaseCursor_cfg (s : State) : s.releaseCursor.cfg = s.cfg := by
  rw [State.releaseCursor_kept]

theorem RangesOk.releaseCursor_updatedAt (h : RangesOk s) (k : Nat) : s.releaseCursor.updatedAt k =
    if k = s.cursor.toNat ∧ s.lockedAt k = true then false else s.updatedAt k :=
  State.releaseCursor_updatedAt (by rw [h.updated]; exact h.cursor) k

theorem RangesOk.releaseCursor_lockedAt (h : RangesOk s) (k : Nat) :
    s.releaseCursor.lockedAt k = if k = s.cursor.toNat then false else s.lockedAt k :=
  State.releaseCursor_lockedAt (by rw [h.locked]; exact h.cursor) k

/-- The slots that are ready are those still updated after the release. -/
theorem RangesOk.ready_iff (h : RangesOk s) : Ready s k ↔ s.releaseCursor.updatedAt k = true := by
  rw [h.releaseCursor_updatedAt, Ready]
  split
  · next hk => exact iff_of_false (fun hr => hr.2 hk) Bool.false_ne_true
  · next hk => exact and_iff_left hk

/-- The lap stops at the first ready slot. -/
theorem RangesOk.lap_of_firstReady {j : Nat} (h : RangesOk s) (hfirst : FirstReady s j k) :
    s.releaseCursor.lap = some k := by
  obtain ⟨hj, rfl, hready, hbefore⟩ := hfirst
  have hstop : (List.range s.cfg.n).find?
      (s.releaseCursor.updatedAt ∘ fun i => (s.cursor.toNat + 1 + i) % s.cfg.n) = some j := by
    refine List.find?_range_eq_some.mpr ⟨h.ready_iff.mp hready, List.mem_range.mpr hj, fun i hi => ?_⟩
    simpa using mt h.ready_iff.mpr (hbefore i hi)
  rw [State.lap, lapOrder, List.find?_map, State.releaseCursor_cursor, State.releaseCursor_cfg, hstop]
  rfl

/-- The lap finds nothing when no slot is ready. -/
theorem RangesOk.lap_of_none_ready (h : RangesOk s) (hnone : ∀ k, k < s.cfg.n → ¬ Ready s k) :
    s.releaseCursor.lap = none := by
  refine List.find?_eq_none.mpr fun k hk => mt h.ready_iff.mpr (hnone k ?_)
  rw [← State.releaseCursor_cfg]
  exact mem_lapOrder hk

/-! ### The trim (R224) -/

theorem State.trimmedTo_of_trim (h : s.trim k = .ok m) : TrimmedTo s k m := by
  obtain ⟨-, -, rfl⟩ := State.trim_ok h
  obtain ⟨hle, hzero, hlast⟩ := State.trimZeros_spec s k (s.declaredSize k)
  exact ⟨hle, hlast, hzero⟩

theorem TrimmedTo.le_of_trimmedTo {m' : Nat} (h : TrimmedTo s k m) (h' : TrimmedTo s k m') : m ≤ m' := by
  obtain ⟨hle, hlast, -⟩ := h
  obtain ⟨-, -, hzero⟩ := h'
  by_contra hlt
  exact hlast.elim (by omega) fun hne => hne (hzero (m - 1) (by omega) (by omega))

theorem TrimmedTo.unique {m' : Nat} (h : TrimmedTo s k m) (h' : TrimmedTo s k m') : m = m' :=
  Nat.le_antisymm (h.le_of_trimmedTo h') (h'.le_of_trimmedTo h)

/-- The release and the lock leave the bytes of every slot, so they leave what the trim gives. -/
theorem TrimmedTo.of_locked (h : TrimmedTo (s.releaseCursor.lockSlot k) k m) : TrimmedTo s k m := by
  rw [State.releaseCursor_kept] at h
  exact h

/-! ### What a NEXT_PAYLOAD leaves -/

theorem NextCase.receiveSideKept (h : NextCase s t) : ReceiveSideKept s t := by
  rw [h.frame]
  exact ⟨rfl, rfl, rfl, fun _ => rfl, rfl, fun _ => rfl, ⟨rfl, rfl, rfl, rfl, rfl⟩, rfl, rfl⟩

/-- The flags after NEXT_PAYLOAD are those after the release, but for a lock. -/
theorem NextCase.flags_of_released (h : NextCase s t) (hs : RangesOk s) (hl : t.locked = s.releaseCursor.locked) :
    FlagsAfterNext s t none := by
  refine ⟨fun k => ?_, fun k => ?_⟩
  · rw [State.updatedAt_congr h.updated]
    exact hs.releaseCursor_updatedAt k
  · rw [State.lockedAt_congr hl, if_neg nofun]
    exact hs.releaseCursor_lockedAt k

theorem NextCase.flags_of_locked (h : NextCase s t) (hs : RangesOk s) (hk : k < s.cfg.n)
    (hl : t.locked = (s.releaseCursor.lockSlot k).locked) : FlagsAfterNext s t (some k) := by
  have hin : k < s.releaseCursor.locked.length := by rw [(State.releaseCursor_length s).2, hs.locked]; exact hk
  refine ⟨fun j => ?_, fun j => ?_⟩
  · rw [State.updatedAt_congr h.updated]
    exact hs.releaseCursor_updatedAt j
  · rw [State.lockedAt_congr hl, State.lockSlot_lockedAt, hs.releaseCursor_lockedAt]
    simp only [hin, and_true, Option.some.injEq, eq_comm]

/-- What NEXT_PAYLOAD leaves when it presents nothing, with the slots in `chosen` locked (R225, R227). -/
structure ReportsEmpty (s t : State) (chosen : Option Nat) : Prop where
  cursor : t.cursor = s.cursor
  txValid : t.txValid = false
  txSlot : t.txSlot = s.txSlot
  txLen : t.txLen = s.txLen
  rsp : t.rsp = some ⟨0x4#4, false, false, 0x00#8, 0#32⟩
  flags : FlagsAfterNext s t chosen
  kept : ReceiveSideKept s t

/-- What NEXT_PAYLOAD leaves when it presents `m` bytes of slot `k` (R223, R226). -/
structure Presents (s t : State) (k m : Nat) : Prop where
  cursor : t.cursor.toNat = k
  txValid : t.txValid = true
  txSlot : t.txSlot.toNat = k
  txLen : t.txLen.toNat = m
  rsp : t.rsp = some ⟨0x0#4, true, false, 0x00#8, BitVec.ofNat 32 (256 * k + m % 256)⟩
  flags : FlagsAfterNext s t (some k)
  kept : ReceiveSideKept s t

theorem NextCase.reportsEmpty {chosen : Option Nat} (h : NextCase s t) (hflags : FlagsAfterNext s t chosen)
    (ht : t = State.noPayload { s with updated := t.updated, locked := t.locked }) : ReportsEmpty s t chosen := by
  have hkept := h.receiveSideKept
  rw [ht] at hflags hkept ⊢
  exact ⟨rfl, rfl, rfl, rfl, rfl, hflags, hkept⟩

theorem NextCase.reportsEmpty_of_lap_none (h : NextCase s t) (hs : RangesOk s) (hlap : s.releaseCursor.lap = none) :
    ReportsEmpty s t none := by
  have ht : t = s.releaseCursor.noPayload := by
    cases h with
    | nothing _ ht => exact ht
    | zero k hk | view k r hk => rw [hlap] at hk; cases hk
  exact h.reportsEmpty (h.flags_of_released hs (by rw [ht]; rfl)) (by rw [ht, State.releaseCursor_kept]; rfl)

/-- A lap that stops at slot `k` locks and trims it: nothing is left and NEXT_PAYLOAD reports `EMPTY`, or it presents
what is left. -/
theorem NextCase.of_lap_some (h : NextCase s t) (hlap : s.releaseCursor.lap = some k) :
    (TrimmedTo s k 0 ∧ t = (s.releaseCursor.lockSlot k).noPayload) ∨
      ∃ r, TrimmedTo s k r ∧ 0 < r ∧ t = (s.releaseCursor.lockSlot k).present k r := by
  cases h with
  | nothing hnone => rw [hlap] at hnone; cases hnone
  | zero j hj htrim ht =>
    cases hlap.symm.trans hj
    exact .inl ⟨(State.trimmedTo_of_trim htrim).of_locked, ht⟩
  | view j r hj htrim hr ht =>
    cases hlap.symm.trans hj
    exact .inr ⟨r, (State.trimmedTo_of_trim htrim).of_locked, hr, ht⟩

/-- A lap that stops at a slot of which the trim leaves nothing (R225). -/
theorem NextCase.reportsEmpty_of_trimmed_zero (h : NextCase s t) (hs : RangesOk s)
    (hlap : s.releaseCursor.lap = some k) (htrim : TrimmedTo s k 0) : ReportsEmpty s t (some k) := by
  have hk : k < s.cfg.n := State.releaseCursor_cfg s ▸ (State.lap_some hlap).1
  rcases h.of_lap_some hlap with ⟨-, ht⟩ | ⟨r, htrim', hr, -⟩
  · exact h.reportsEmpty (h.flags_of_locked hs hk (by rw [ht]; rfl)) (by rw [ht, State.releaseCursor_kept]; rfl)
  · exact absurd (htrim'.unique htrim) (by omega)

/-- The frame of an updated slot has a type byte, so the trim leaves its two header bytes (R225), and no more than the
largest frame. -/
theorem GoodState.trimmed_bounds (h : GoodState s) (hk : s.updatedAt k = true) (htrim : TrimmedTo s k m) :
    2 ≤ m ∧ m ≤ s.cfg.maxFrame := by
  obtain ⟨htype, -, hmax⟩ := h.slots.declared k hk
  obtain ⟨hle, -, hzero⟩ := htrim
  refine ⟨?_, Nat.le_trans hle hmax⟩
  by_contra hlt
  rw [hzero 1 (by omega) (by omega)] at htype
  exact absurd htype (by decide)

/-- In a good state a lap that stops at a slot presents it. -/
theorem GoodState.next_presents (h : GoodState s) (hlap : s.releaseCursor.lap = some k) :
    ∃ t r, exec .next s = .next t ∧ TrimmedTo s k r ∧ 0 < r ∧ Presents s t k r := by
  obtain ⟨hk, hupdated⟩ := State.lap_some hlap
  rw [State.releaseCursor_cfg] at hk
  have hupdated := State.updatedAt_of_releaseCursor hupdated
  obtain ⟨t, hnext⟩ := exec_next_completes h
  have hcase := exec_next_cases hnext
  rcases hcase.of_lap_some hlap with ⟨htrim, -⟩ | ⟨r, htrim, hr, ht⟩
  · exact absurd (h.trimmed_bounds hupdated htrim).1 (by decide)
  · obtain ⟨-, hmax⟩ := h.trimmed_bounds hupdated htrim
    have hn := h.bounds.slotCount
    have hlen := h.bounds.maxLen
    have hslot : (BitVec.ofNat 6 k).toNat = k := by rw [BitVec.toNat_ofNat]; omega
    have htxLen : (BitVec.ofNat 9 r).toNat = r := by
      unfold Cfg.maxFrame at hmax
      rw [BitVec.toNat_ofNat]
      omega
    have hflags := hcase.flags_of_locked h.ranges hk (by rw [ht]; rfl)
    have hkept := hcase.receiveSideKept
    subst ht
    refine ⟨_, r, hnext, htrim, hr, hslot, rfl, hslot, htxLen, ?_, hflags, hkept⟩
    rw [State.present_rsp, zextPair_slot_length (by omega)]
    rfl

/-! ### The sweep (R228) -/

theorem lapOrder_eq_rotate (n start : Nat) : lapOrder n start = (List.range n).rotate (start + 1) := by
  refine List.ext_getElem (by simp [lapOrder]) fun i _ _ => ?_
  simp [lapOrder, List.getElem_rotate, Nat.add_comm i]

theorem lapOrder_nodup (n start : Nat) : (lapOrder n start).Nodup := by
  rw [lapOrder_eq_rotate, List.nodup_rotate]
  exact List.nodup_range

/-- The lap that starts at a slot is an earlier lap rotated past that slot. -/
theorem lapOrder_of_split {n start : Nat} {before after : List Nat} (h : lapOrder n start = before ++ k :: after) :
    lapOrder n k = after ++ (before ++ [k]) := by
  have hlength : n = before.length + (after.length + 1) := by simpa [lapOrder] using congrArg List.length h
  have hlen : before.length < n := by omega
  have hk : k = (start + 1 + before.length) % n := by
    simpa [lapOrder, hlen, eq_comm] using congrArg (·[before.length]?) h
  have hmod (i : Nat) : (List.range n).rotate (i % n) = (List.range n).rotate i := by
    simpa using List.rotate_mod (List.range n) i
  calc lapOrder n k = (List.range n).rotate ((start + 1 + before.length) % n + 1) := by rw [lapOrder_eq_rotate, hk]
    _ = (List.range n).rotate (start + 1 + (before.length + 1)) := by
        rw [← List.rotate_rotate, hmod, List.rotate_rotate, Nat.add_assoc]
    _ = (before ++ k :: after).rotate (before.length + 1) := by
        rw [← List.rotate_rotate, ← lapOrder_eq_rotate, h]
    _ = ((before ++ [k]) ++ after).rotate (before ++ [k]).length := by simp
    _ = after ++ (before ++ [k]) := List.rotate_append_length_eq _ _

/-- The slots that a sweep has to present: the ready slots in the order of the lap. -/
def State.sweepOrder (s : State) : List Nat :=
  (lapOrder s.cfg.n s.cursor.toNat).filter s.releaseCursor.updatedAt

/-- The lap stops at the first slot of the sweep. -/
theorem State.lap_eq_head?_sweepOrder (s : State) : s.releaseCursor.lap = s.sweepOrder.head? := by
  rw [State.lap, State.sweepOrder, List.head?_filter, State.releaseCursor_cursor, State.releaseCursor_cfg]

/-- Once slot `k` is presented, the next release makes it the one slot that is no longer ready. -/
theorem Presents.releaseCursor_updatedAt (h : Presents s t k m) (hs : RangesOk s) (ht : RangesOk t) (j : Nat) :
    t.releaseCursor.updatedAt j = if j = k then false else s.releaseCursor.updatedAt j := by
  have hlocked : t.lockedAt k = true := by rw [h.flags.locked, if_pos rfl]
  rw [ht.releaseCursor_updatedAt, h.cursor, h.flags.updated, ← hs.releaseCursor_updatedAt]
  by_cases hj : j = k
  · rw [if_pos ⟨hj, hj ▸ hlocked⟩, if_pos hj]
  · rw [if_neg fun hc => hj hc.1, if_neg hj]

/-- A NEXT_PAYLOAD takes the first slot off the sweep: the slots before it were not ready, and the new lap comes to
them and to it after all the others. -/
theorem Presents.sweepOrder {rest : List Nat} (h : Presents s t k m) (hs : RangesOk s) (ht : RangesOk t)
    (horder : s.sweepOrder = k :: rest) : t.sweepOrder = rest := by
  obtain ⟨before, after, hsplit, hbefore, -, hafter⟩ := List.filter_eq_cons_iff.mp horder
  have hnodup := lapOrder_nodup s.cfg.n s.cursor.toNat
  rw [hsplit, List.nodup_append, List.nodup_cons] at hnodup
  obtain ⟨-, ⟨hk, -⟩, -⟩ := hnodup
  have hready := h.releaseCursor_updatedAt hs ht
  have hlast : (before ++ [k]).filter t.releaseCursor.updatedAt = [] := by
    refine List.filter_eq_nil_iff.mpr fun j hj => ?_
    rw [hready]
    split
    · exact Bool.false_ne_true
    · next hjk => exact hbefore j (by simpa [hjk] using hj)
  have hfirst : after.filter t.releaseCursor.updatedAt = after.filter s.releaseCursor.updatedAt := by
    refine List.filter_congr fun j hj => ?_
    rw [hready, if_neg (ne_of_mem_of_not_mem hj hk)]
  rw [State.sweepOrder, h.cursor, h.kept.cfg, lapOrder_of_split hsplit, List.filter_append, hlast, hfirst, hafter,
    List.append_nil]

theorem runCommands_next_succ (h : exec .next s = .next t) (n : Nat) :
    runCommands (List.replicate (n + 1) .next) s = runCommands (List.replicate n .next) t := by
  rw [List.replicate_succ, runCommands, h]

/-- The `j`-th of successive NEXT_PAYLOAD commands presents the `j`-th slot of `order`. -/
def PresentsInOrder (s : State) (order : List Nat) : Prop :=
  ∀ j k, order[j]? = some k →
    ∃ t, runCommands (List.replicate (j + 1) .next) s = .next t ∧ t.txValid = true ∧ t.txSlot.toNat = k

/-- After `n` NEXT_PAYLOAD commands one more reports `EMPTY` and leaves no slot updated. -/
def EmptyAfter (s : State) (n : Nat) : Prop :=
  ∃ t, runCommands (List.replicate (n + 1) .next) s = .next t ∧ t.txValid = false ∧
    t.rsp = some ⟨0x4#4, false, false, 0x00#8, 0#32⟩ ∧ ∀ k, t.updatedAt k = false

theorem GoodState.emptyAfter_zero (h : GoodState s) (horder : s.sweepOrder = []) : EmptyAfter s 0 := by
  have hlap : s.releaseCursor.lap = none := by rw [State.lap_eq_head?_sweepOrder, horder]; rfl
  obtain ⟨t, hnext⟩ := exec_next_completes h
  have hcase := exec_next_cases hnext
  have hempty := hcase.reportsEmpty_of_lap_none h.ranges hlap
  refine ⟨t, runCommands_next_succ hnext 0, hempty.txValid, hempty.rsp, fun k => ?_⟩
  rw [State.updatedAt_congr hcase.updated]
  by_contra hk
  rw [Bool.not_eq_false] at hk
  have hlt : k < s.cfg.n := h.ranges.updated ▸ State.updatedAt_lt s (State.updatedAt_of_releaseCursor hk)
  have hmem : k ∈ s.sweepOrder := List.mem_filter.mpr ⟨mem_lapOrder_of_lt h.ranges.cursor hlt, hk⟩
  rw [horder] at hmem
  cases hmem

theorem PresentsInOrder.cons {order : List Nat} (hnext : exec .next s = .next t) (h : Presents s t k m)
    (hrest : PresentsInOrder t order) : PresentsInOrder s (k :: order) := by
  intro j i hj
  rw [runCommands_next_succ hnext]
  cases j with
  | zero => exact ⟨t, rfl, h.txValid, by rw [h.txSlot]; exact Option.some.inj hj⟩
  | succ j => exact hrest j i hj

theorem EmptyAfter.succ {n : Nat} (hnext : exec .next s = .next t) (h : EmptyAfter t n) : EmptyAfter s (n + 1) := by
  obtain ⟨u, hu, hempty⟩ := h
  exact ⟨u, (runCommands_next_succ hnext _).trans hu, hempty⟩

/-- By induction on the slots still to present. -/
theorem GoodState.sweep (h : GoodState s) {order : List Nat} (horder : s.sweepOrder = order) :
    PresentsInOrder s order ∧ EmptyAfter s order.length := by
  induction order generalizing s with
  | nil => exact ⟨nofun, h.emptyAfter_zero horder⟩
  | cons k rest ih =>
    have hlap : s.releaseCursor.lap = some k := by rw [State.lap_eq_head?_sweepOrder, horder]; rfl
    obtain ⟨t, r, hnext, -, -, hpresents⟩ := h.next_presents hlap
    have ht : GoodState t := (exec_next_cases hnext).goodState h
    obtain ⟨hinOrder, hempty⟩ := ih ht (hpresents.sweepOrder h.ranges ht.ranges horder)
    exact ⟨hinOrder.cons hnext hpresents, hempty.succ hnext⟩

/-- `sweepOrder` selects the slots that are updated and not about to be released. -/
theorem RangesOk.sweepOrder_eq (h : RangesOk s) : s.sweepOrder =
    ((List.range s.cfg.n).map fun j => (s.cursor.toNat + 1 + j) % s.cfg.n).filter
      (fun k => s.updatedAt k && !(k == s.cursor.toNat && s.lockedAt k)) := by
  refine List.filter_congr fun k _ => Bool.eq_iff_iff.mpr ?_
  rw [← h.ready_iff]
  simp [Ready, imp_iff_not_or]

/-! ### A slot with no frame (R225) -/

/-- NEXT_PAYLOAD completes when its lap stops at a slot whose declared frame lies in the arena. -/
theorem exec_next_completes_of_lap (hlap : s.releaseCursor.lap = some k)
    (hin : s.cfg.base k + s.declaredSize k ≤ s.cfg.arenaSize) : ∃ t, exec .next s = .next t := by
  refine outcome_completes (r := s.releaseCursor.advance) ?_
  have hin' : s.releaseCursor.cfg.base k + s.releaseCursor.declaredSize k ≤ s.releaseCursor.cfg.arenaSize := by
    rw [State.releaseCursor_kept]
    exact hin
  unfold State.advance
  rw [hlap]
  exact State.selectSlot_completes (State.lap_some hlap).1 hin'

theorem trimmedTo_zero (h0 : s.slotByte k 0 = 0x00#8) (h1 : s.slotByte k 1 = 0x00#8) : TrimmedTo s k 0 := by
  refine ⟨Nat.zero_le _, .inl rfl, fun i _ hi => ?_⟩
  rw [h1] at hi
  match i, hi with
  | 0, _ => exact h0
  | 1, _ => exact h1

/-! ### The counters (R233) -/

theorem State.updatedCount_eq_card (s : State) :
    s.updatedCount = ((Finset.range s.cfg.n).filter fun k => s.updatedAt k = true).card := by
  calc s.updatedCount = ((List.range s.cfg.n).filter fun k => decide (s.updatedAt k = true)).length := by
        simp [State.updatedCount, List.countP_eq_length_filter]
    _ = ((Finset.range s.cfg.n).filter fun k => s.updatedAt k = true).card := rfl

end Sys2Proof.Machine

namespace Sys2Proof.SchedulerFamily

open Sys2Proof Sys2Proof.Machine

/-- Settles O41: the lap stops at the first ready slot, which a good state presents, and there is one trimmed
length. -/
theorem nextPresentsTheFirstReadySlot : Obligations.NextPresentsTheFirstReadySlot := by
  unfold Obligations.NextPresentsTheFirstReadySlot
  intro s j k m hs hfirst htrim
  obtain ⟨t, r, hnext, htrim', hr, h⟩ := hs.next_presents (hs.ranges.lap_of_firstReady hfirst)
  cases htrim.unique htrim'
  exact ⟨t, hnext, hr, h.cursor, h.txValid, h.txSlot, h.txLen, h.rsp, h.flags, h.kept⟩

/-- Settles O42: the lap finds nothing. -/
theorem nextReportsEmpty : Obligations.NextReportsEmpty := by
  unfold Obligations.NextReportsEmpty
  intro s hs hnone
  obtain ⟨t, hnext⟩ := exec_next_completes hs
  have h := (exec_next_cases hnext).reportsEmpty_of_lap_none hs.ranges (hs.ranges.lap_of_none_ready hnone)
  exact ⟨t, hnext, h.cursor, h.txValid, h.txSlot, h.txLen, h.rsp, h.flags, h.kept⟩

/-- Settles O43: the lap stops at slot `k`, whose two declared bytes lie in the arena and are both trimmed off. -/
theorem trimmedToZeroReportsEmpty : Obligations.TrimmedToZeroReportsEmpty := by
  unfold Obligations.TrimmedToZeroReportsEmpty
  intro s j k hs hfirst h0 h1
  have hlap := hs.lap_of_firstReady hfirst
  have hk : k < s.cfg.n := State.releaseCursor_cfg s ▸ (State.lap_some hlap).1
  have hsize : s.declaredSize k = 2 := by rw [State.declaredSize, h1]; rfl
  obtain ⟨t, hnext⟩ := exec_next_completes_of_lap hlap (hsize ▸ Cfg.base_add_two_le (.of_wf hs.cfg) hk)
  have h := (exec_next_cases hnext).reportsEmpty_of_trimmed_zero hs hlap (trimmedTo_zero h0 h1)
  have hlocked : t.lockedAt k = true := by rw [h.flags.locked, if_pos rfl]
  obtain ⟨-, -, ⟨hupdated, hkeep⟩, -⟩ := hfirst
  have hupdated' : t.updatedAt k = true := by rw [h.flags.updated, if_neg hkeep, hupdated]
  exact ⟨t, hnext, h.cursor, h.txValid, h.txSlot, h.txLen, h.rsp, hlocked, hupdated', h.flags, h.kept⟩

/-- Settles O44: by induction on the slots to present; each NEXT_PAYLOAD takes the first off the sweep. -/
theorem sweepPresentsEachReadySlotOnce : Obligations.SweepPresentsEachReadySlotOnce := by
  unfold Obligations.SweepPresentsEachReadySlotOnce
  rintro s order hs rfl
  exact hs.sweep hs.ranges.sweepOrder_eq

/-- Settles O45: READ_TX completes in a good state, and `exec_rdtx_cases` lists its answers. -/
theorem readTxEveryCase : Obligations.ReadTxEveryCase := by
  unfold Obligations.ReadTxEveryCase
  intro s i hs
  obtain ⟨t, ht⟩ := exec_rdtx_completes i hs
  rw [ht]
  have hone : i = 1#8 ↔ i.toNat = 1 := by bv_omega
  rcases exec_rdtx_cases ht with ⟨hout, rfl⟩ | ⟨hview, ⟨h1, rfl⟩ | ⟨h1, rfl⟩⟩
  · have hno : s.txValid = true → ¬ i.toNat < s.txLen.toNat := fun hv => by simpa [hv] using hout
    exact ⟨fun _ => rfl, fun hv hi => absurd hi (hno hv), fun hv hi => absurd hi (hno hv)⟩
  · rw [zextByte_ofNat_mod]
    exact ⟨fun hout => absurd hout hview, fun _ _ _ => rfl, fun _ _ hne => absurd (hone.mpr h1) hne⟩
  · rw [zextByte_eq_ofNat]
    exact ⟨fun hout => absurd hout hview, fun _ _ heq => absurd (hone.mp heq) h1, fun _ _ _ => rfl⟩

/-- Settles O48: the list of slots is counted as the finite set is. -/
theorem updatedCountCountsSlots : Obligations.UpdatedCountCountsSlots := by
  unfold Obligations.UpdatedCountCountsSlots
  intro s
  rw [← State.updatedCount_eq_card]
  rfl

/-- Settles O49: the data field is the counter as a word of 32 bits. -/
theorem receivedCountReadsTheCounter : Obligations.ReceivedCountReadsTheCounter := by
  unfold Obligations.ReceivedCountReadsTheCounter
  exact fun s => ⟨BitVec.ofNat 32 s.rxCount, BitVec.toNat_ofNat .., rfl⟩

end Sys2Proof.SchedulerFamily

/-! ## 43_control: what the four TAKEs and LINK_RESET answer, and the answer to an illegal word

The TAKEs of the boolean latches share one response, `State.respondLatch`; TAKE_MM answers with the id in a pair of
bytes instead. An illegal word is one that the decoder refuses, and the port answers it without running a command. -/

namespace Sys2Proof.Machine

variable {s : State}

/-! ### The data of a response (R260, R262) -/

theorem zextBool_eq_ofNat (v : Bool) : zextBool v = BitVec.ofNat 32 v.toNat := by
  cases v with
  | false => rfl
  | true => rfl

/-- The answer of TAKE_MM has a 1 in bit 8, above the id. -/
theorem zextPair_one_eq_ofNat (b : Byte) : zextPair 0x01#8 b = BitVec.ofNat 32 (0x100 + b.toNat) := by
  calc zextPair 0x01#8 b = zextPair (BitVec.ofNat 8 1) (BitVec.ofNat 8 b.toNat) := by rw [BitVec.ofNat_toNat]; rfl
    _ = BitVec.ofNat 32 (256 * 1 + b.toNat % 256) := zextPair_slot_length (by decide) b.toNat
    _ = BitVec.ofNat 32 (0x100 + b.toNat) := by rw [Nat.mod_eq_of_lt b.isLt]

/-! ### The responses, as whole states -/

theorem State.respondLatch_eq (s : State) (v : Bool) : s.respondLatch v = { s with
    rsp := some ⟨0x0#4, v, false, 0x00#8, BitVec.ofNat 32 v.toNat⟩ } := by
  rw [← zextBool_eq_ofNat]
  rfl

theorem exec_takeMm_of_set (h : s.latchMm = true) :
    exec .takeMm s = .next ((s.setMm false).respond .ok true false .none (zextPair 0x01#8 s.mmId)) := by
  change execTakeMm s = _
  simp only [execTakeMm, h, if_true]

theorem exec_takeMm_of_clear (h : s.latchMm = false) :
    exec .takeMm s = .next ((s.setMm false).respond .ok false false .none 0#32) := by
  change execTakeMm s = _
  simp only [execTakeMm, h, Bool.false_eq_true, if_false]

theorem acceptInput_command_of_illegal {w : CommandWord} (h : w.illegal = true) :
    acceptInput (.command w) s = .next s.answerIllegal := by
  obtain ⟨e, hd⟩ := (decode_error_iff w).mpr h
  simp only [acceptInput, acceptCommand, hd]

end Sys2Proof.Machine

namespace Sys2Proof.ControlFamily

open Sys2Proof Sys2Proof.Machine

/-- Settles O5: the decoder refuses an illegal word, and the answer writes the response only. -/
theorem illegalWordChangesNothing : Obligations.IllegalWordChangesNothing := by
  unfold Obligations.IllegalWordChangesNothing
  intro s w rest hwf hin hill
  calc step s = acceptInput (.command w) { s with inputs := rest } := step_of_input hwf hin
    _ = .next (State.answerIllegal { s with inputs := rest }) := acceptInput_command_of_illegal hill

/-- Settles O50: the response of a latch read, after the latch is cleared. -/
theorem takeBootReadsAndClears : Obligations.TakeBootReadsAndClears := by
  unfold Obligations.TakeBootReadsAndClears
  exact fun s => congrArg Host.Outcome.next ((s.setBoot false).respondLatch_eq s.latchBoot)

/-- Settles O51: the response of a latch read, after the latch is cleared. -/
theorem takeBindReadsAndClears : Obligations.TakeBindReadsAndClears := by
  unfold Obligations.TakeBindReadsAndClears
  exact fun s => congrArg Host.Outcome.next ((s.setBind false).respondLatch_eq s.latchBind)

/-- Settles O52: one case for each value of the latch. -/
theorem takeMmGivesTheId : Obligations.TakeMmGivesTheId := by
  unfold Obligations.TakeMmGivesTheId
  intro s
  constructor
  · intro hset
    rw [exec_takeMm_of_set hset, zextPair_one_eq_ofNat]
    rfl
  · intro hclear
    exact exec_takeMm_of_clear hclear

/-- Settles O53: the response of a latch read, after the latch is cleared. -/
theorem takePingReadsAndClears : Obligations.TakePingReadsAndClears := by
  unfold Obligations.TakePingReadsAndClears
  exact fun s => congrArg Host.Outcome.next ((s.setPing false).respondLatch_eq s.latchPing)

/-- Settles O55: neither `tx_valid` nor the response is a slot flag, so the flags read as after their clearing. -/
theorem linkResetClearsFlagsAndView : Obligations.LinkResetClearsFlagsAndView := by
  unfold Obligations.LinkResetClearsFlagsAndView
  intro s
  have hflags : ∀ k, s.clearSlotFlags.updatedAt k = false ∧ s.clearSlotFlags.lockedAt k = false :=
    fun k => ⟨s.clearSlotFlags_updatedAt k, s.clearSlotFlags_lockedAt k⟩
  exact ⟨_, rfl, hflags, List.length_replicate, List.length_replicate, rfl⟩

end Sys2Proof.ControlFamily

/-! ## 60_exceptions: that every command completes, and what each error status leaves

Raising an error is a status in the response (R300). `Status.Leaves` says for each status what a command that answers
it leaves; then each case of each command answers a status and leaves what that status says. -/

namespace Sys2Proof.Machine

variable {s t : State}

/-- The codes of R112 are distinct: they number the statuses in the order of their constructors. -/
theorem Status.code_injective : Function.Injective Status.code := by
  have hinverse : Function.LeftInverse (fun code : BitVec 4 => Status.ofNat code.toNat) Status.code := by
    intro st
    cases st <;> rfl
  exact hinverse.injective

/-- What a command that answers the status leaves (R304): only the response differs after E_SYNC, E_RANGE and
E_ILLEGAL; E_LENGTH and E_CRC discard the frame in progress. OK and EMPTY are no errors. -/
def Status.Leaves (st : Status) (s t : State) : Prop :=
  match st with
  | .eSync | .eRange | .eIllegal => t = { s with rsp := t.rsp }
  | .eLength => t = { s with fsm := .idle, rsp := t.rsp }
  | .eCrc => t = { s with wbuf := t.wbuf, cnt := t.cnt, fsm := .idle, rsp := t.rsp }
  | .ok | .empty => True

/-- The response in `t` carries the status `st`, and `t` is what that status leaves of `s`. -/
structure AnswersWith (s t : State) (st : Status) : Prop where
  rsp : ∃ r, t.rsp = some r ∧ r.status = st.code
  leaves : st.Leaves s t

/-- FEED answers OK, or the error of the check that its byte fails (R141, R142, R147). -/
theorem FeedCase.answersWith {b : Byte} (h : FeedCase b s t) : ∃ st, AnswersWith s t st := by
  cases h with
  | sync _ _ ht | length _ _ _ ht | data _ _ _ ht | valid _ _ _ _ _ _ ht =>
    subst ht
    exact ⟨.ok, ⟨_, rfl, rfl⟩, trivial⟩
  | notSync _ _ ht => subst ht; exact ⟨.eSync, ⟨_, rfl, rfl⟩, rfl⟩
  | badLength _ _ ht => subst ht; exact ⟨.eLength, ⟨_, rfl, rfl⟩, rfl⟩
  | badCrc _ _ _ ht => subst ht; exact ⟨.eCrc, ⟨_, rfl, rfl⟩, rfl⟩

/-- NEXT_PAYLOAD answers OK or EMPTY (R225 to R227). -/
theorem NextCase.answersWith (h : NextCase s t) : ∃ st, AnswersWith s t st := by
  cases h with
  | nothing _ ht | zero _ _ _ ht => subst ht; exact ⟨.empty, ⟨_, rfl, rfl⟩, trivial⟩
  | view _ _ _ _ _ ht => subst ht; exact ⟨.ok, ⟨_, rfl, rfl⟩, trivial⟩

/-- READ_TX answers E_RANGE outside the view and OK inside it (R230, R232). -/
theorem exec_rdtx_answersWith {i : Byte} (h : exec (.rdtx i) s = .next t) : ∃ st, AnswersWith s t st := by
  rcases exec_rdtx_cases h with ⟨-, rfl⟩ | ⟨-, ⟨-, rfl⟩ | ⟨-, rfl⟩⟩
  · exact ⟨.eRange, ⟨_, rfl, rfl⟩, rfl⟩
  · exact ⟨.ok, ⟨_, rfl, rfl⟩, trivial⟩
  · exact ⟨.ok, ⟨_, rfl, rfl⟩, trivial⟩

theorem exec_answersWith {i : Instr} (h : exec i s = .next t) : ∃ st, AnswersWith s t st := by
  cases i with
  | feed b => exact (exec_feed_cases h).answersWith
  | next => exact (exec_next_cases h).answersWith
  | rdtx i => exact exec_rdtx_answersWith h
  | takeBoot | takeBind | takeMm | takePing | cntUpd | cntRx | linkrst =>
    cases h
    exact ⟨.ok, ⟨_, rfl, rfl⟩, trivial⟩

/-- The status code in the response tells what the command left. -/
theorem leaves_of_status {i : Instr} {r : Response} {st : Status} (h : exec i s = .next t) (hr : t.rsp = some r)
    (hst : r.status = st.code) : st.Leaves s t := by
  obtain ⟨st', ⟨r', hr', hst'⟩, hleaves⟩ := exec_answersWith h
  obtain rfl : r' = r := Option.some.inj (hr'.symm.trans hr)
  obtain rfl : st' = st := Status.code_injective (hst'.symm.trans hst)
  exact hleaves

end Sys2Proof.Machine

namespace Sys2Proof.ExceptionsFamily

open Sys2Proof Sys2Proof.Machine

/-- Settles O12: in a good state every access of a command exists, so the step (`step_completes`) and each command
(`exec_completes`) complete. -/
theorem everyCommandCompletes : Obligations.EveryCommandCompletes := by
  unfold Obligations.EveryCommandCompletes
  exact fun s hs => ⟨step_completes hs, fun i => exec_completes i hs⟩

/-- Settles O27: `Status.Leaves` of the four error statuses a command answers. -/
theorem stateAfterAnError : Obligations.StateAfterAnError := by
  unfold Obligations.StateAfterAnError
  exact fun i s t r h hr => ⟨leaves_of_status (st := .eSync) h hr, leaves_of_status (st := .eLength) h hr,
    leaves_of_status (st := .eCrc) h hr, leaves_of_status (st := .eRange) h hr⟩

end Sys2Proof.ExceptionsFamily

/-! ## 70_reset_and_hazards: a frame stored in the presented slot

A slot's route code is reported by a store only, so it tells which slot the frame went to. READ_TX reads the live
arena, so it shows that frame; the next NEXT_PAYLOAD releases the slot under the cursor, and the frame with it. -/

namespace Sys2Proof.Machine

variable {s t : State} {k : Nat}

/-! ### What a slot's route code tells (R113, R190) -/

theorem Route.code_lt_of_not_slot {route : Route} (h : ∀ k, route ≠ .slot k) : route.code.toNat < 0x40 := by
  cases route with
  | slot k => exact absurd rfl (h k)
  | none | boot | bind | mm | ping | dShort | dNoMatch | dLocked | dOversize | dBothBusy => decide

/-- A code of slot `k` is the code of that slot's route, as long as the slot indices fit the code's 6 low bits. -/
theorem Route.eq_slot_of_code {route : Route} (hlt : ∀ j, route = .slot j → j < 64)
    (hcode : route.code.toNat = 0x40 + k) : route = .slot k := by
  by_cases hslot : ∃ j, route = .slot j
  · obtain ⟨j, rfl⟩ := hslot
    rw [Route.code_slot (hlt j rfl)] at hcode
    rw [Nat.add_left_cancel hcode]
  · have hlow := Route.code_lt_of_not_slot (not_exists.mp hslot)
    omega

/-- The classifier reports a slot only when the storage rules chose that slot (R180 to R185). -/
theorem storageOf_of_classify_slot {f : Frame} (h : classify s f = .ok (t, .slot k)) :
    ∃ ty, f.field 2 = some ty ∧ controlOf s.cfg f ty = none ∧ storageOf s f ty = .store k := by
  rcases classify_cases h with ⟨-, -, hroute⟩ | ⟨-, ctl, -, -, -, hroute⟩ | ⟨ty, hty, hctl, happly⟩
  · cases hroute
  · cases ctl <;> cases hroute
  · rcases State.applyStorage_cases happly with ⟨hdrop, -⟩ | ⟨j, hstore, hroute, -⟩
    · exact absurd hdrop storageOf_ne_drop_slot
    · cases hroute
      exact ⟨ty, hty, hctl, hstore⟩

/-- A FEED that reports the code of slot `k` has stored its frame there. -/
theorem GoodState.storedIn_of_slot_code {b : Byte} {r : Response} (hs : GoodState s)
    (h : exec (.feed b) s = .next t) (hr : t.rsp = some r) (hcode : r.route.toNat = 0x40 + k) :
    StoredIn b s t k := by
  by_cases hv : completesValid b s
  · obtain ⟨s', route, -, -, hcl, ht⟩ := (exec_feed_cases h).classified_of_valid hv
    have hrsp : t.rsp = some ⟨Status.ok.code, true, true, route.code, 0#32⟩ := by rw [ht]; rfl
    cases hr.symm.trans hrsp
    have hlt : ∀ j, route = .slot j → j < 64 := by
      rintro j rfl
      exact Nat.lt_of_lt_of_le (classify_slot_lt hcl) hs.bounds.slotCount.2
    obtain rfl := Route.eq_slot_of_code hlt hcode
    obtain ⟨ty, hty, hctl, hstore⟩ := storageOf_of_classify_slot hcl
    exact (exec_feed_cases h).storedIn_of_store hs hv hty (noControlRule_iff.mpr hctl) hstore
  · have hnot : ¬ ReceivesValid (.feed b) s := by
      rintro ⟨b', hb, hvalid⟩
      cases hb
      exact hv hvalid
    obtain ⟨st, ok, data, hrsp⟩ := exec_rsp_of_not_receivesValid h hnot
    cases hr.symm.trans hrsp
    have hlow : Route.none.code.toNat < 0x40 := Route.code_lt_of_not_slot nofun
    exact absurd hcode (Nat.ne_of_lt (Nat.lt_add_right k hlow))

/-! ### The release of the presented slot (R221) -/

/-- The one locked slot is the one under the cursor. -/
theorem GoodState.eq_cursor_of_locked (hs : GoodState s) (hk : s.lockedAt k = true) : k = s.cursor.toNat := by
  obtain ⟨hview, rfl⟩ := hs.slots.lockedView k hk
  rw [(hs.slots.viewLocked hview).1]

/-- NEXT_PAYLOAD clears `updated` of the slot that was locked, and its lap sets no `updated` flag. -/
theorem GoodState.next_releases_locked (hs : GoodState s) (h : NextCase s t) (hk : s.lockedAt k = true) :
    t.updatedAt k = false := by
  rw [State.updatedAt_congr h.updated, hs.ranges.releaseCursor_updatedAt,
    if_pos ⟨hs.eq_cursor_of_locked hk, hk⟩]

/-- A slot that is not updated is not locked, and so is not presented (R38, I27). -/
theorem GoodState.not_presented_of_not_updated (hs : GoodState s) (hk : s.updatedAt k = false) :
    s.lockedAt k = false ∧ (s.txValid = true → s.txSlot.toNat ≠ k) := by
  have hunlocked : s.lockedAt k = false := by
    rw [← Bool.not_eq_true] at hk ⊢
    exact mt (hs.slots.lockedUpdated k) hk
  refine ⟨hunlocked, ?_⟩
  rintro hview rfl
  obtain ⟨-, hlocked⟩ := hs.slots.viewLocked hview
  rw [hunlocked] at hlocked
  cases hlocked

end Sys2Proof.Machine

namespace Sys2Proof.HazardsFamily

open Sys2Proof Sys2Proof.Machine

/-- Settles O46: the route code says that the frame is stored in the presented slot, FEED keeps the view, and READ_TX
(`readTxEveryCase`) reads the arena inside that view, but for the length byte. -/
theorem tornViewReadsTheNewFrame : Obligations.TornViewReadsTheNewFrame := by
  unfold Obligations.TornViewReadsTheNewFrame
  intro s t b i r hs hview h hr hcode hlen hsize
  have hstored := hs.storedIn_of_slot_code h hr hcode
  have hgood : GoodState t := (exec_feed_cases h).goodState hs
  obtain ⟨-, hlengthByte, hliveByte⟩ := SchedulerFamily.readTxEveryCase t i hgood
  rw [← hstored.received.txValid] at hview
  rw [← hstored.received.txLen] at hlen ⊢
  by_cases hi : i = 1#8
  · rw [hlengthByte hview hlen hi, if_pos hi]
  · have hbyte : t.arena.read (t.cfg.base t.txSlot.toNat + i.toNat) =
        (completedFrame b s).bytes.getD i.toNat 0#8 := by
      rw [hstored.received.txSlot]
      exact hstored.bytes i.toNat hsize
    rw [hliveByte hview hlen hi, if_neg hi, hbyte]

/-- Settles O47: FEED keeps the lock, so NEXT_PAYLOAD releases the slot, and a good state presents updated slots
only. -/
theorem updateOfALockedSlotIsLost : Obligations.UpdateOfALockedSlotIsLost := by
  unfold Obligations.UpdateOfALockedSlotIsLost
  intro s t u b k hs hk hfeed hnext
  have ht : GoodState t := (exec_feed_cases hfeed).goodState hs
  have hu : GoodState u := (exec_next_cases hnext).goodState ht
  have hlocked : t.lockedAt k = true := by rw [State.lockedAt_congr (exec_feed_cases hfeed).kept.locked, hk]
  have hreleased : u.updatedAt k = false := ht.next_releases_locked (exec_next_cases hnext) hlocked
  exact ⟨hreleased, hu.not_presented_of_not_updated hreleased⟩

end Sys2Proof.HazardsFamily
